-- ==== Sys2Proof/Word.lean ====
section
/-! DEFINITION. The words DXTDEC computes with: bytes, 16-bit and 32-bit words, and colours (R10, R14). -/

namespace Sys2Proof

/-- One byte of IN or OUT (R60, R61). -/
abbrev Byte := BitVec 8

/-- A packed 5:6:5 endpoint (R36). -/
abbrev Half := BitVec 16

/-- A 32-bit register or texture-header word (R22, R92). -/
abbrev Word := BitVec 32

/-- A 64-bit register or block half (R22, R96). -/
abbrev Long := BitVec 64

/-- An endpoint expanded to 8 bits per channel: E0 or E1 (R36). -/
structure Rgb where
  r : Byte
  g : Byte
  b : Byte
deriving DecidableEq, Repr, Inhabited

/-- A colour of four 8-bit channels (R14). -/
structure Colour where
  r : Byte
  g : Byte
  b : Byte
  a : Byte
deriving DecidableEq, Repr, Inhabited

end Sys2Proof
end

