-- ==== Sys2Proof/Config.lean ====
section
/-! DEFINITION. What is fixed for one DXTDEC: the parameters of R8, whose values the source does not give, the
values of the texture format (R92 to R94), and the free values (bodyless constants nothing can evaluate). -/

namespace Sys2Proof

/-- The parameters of R8. A model takes them as arguments: the step reads them from State.cfg, and no step changes
them (log entry 1). MAGIC is ASCII and IN_MAX is at most 2^32 - 1 by their types. -/
structure Config where
  /-- MAGIC, nine ASCII bytes, each 0x00 to 0x7F (R8). -/
  magic : Vector (BitVec 7) 9
  /-- PAD (R8). -/
  pad : Byte
  /-- TAG, four bytes (R8). -/
  tag : Vector Byte 4
  /-- IN_MAX, at most 2^32 - 1 (R8). -/
  inMax : Word
  /-- OUT_CAP, the bytes of OUT (R8). -/
  outCap : Nat
  /-- Another DXTDEC has been given this one's OUT (R82, reason SHARED_OUT of R280). -/
  outShared : Bool
deriving DecidableEq, Repr, Inhabited

/-- FREE VALUE. The parameters this machine was built with: OPEN in the spec (D6, D24, D25), so no value is chosen
here (log entry 1). -/
opaque Config.given : Config

/-- FREE VALUE. What an address of IN holds that the host has not written since the reset numbered by the first
argument (R49 'IN contents: unspecified', R60; log entry 2). -/
opaque Config.freeIn : Nat → Nat → Byte

/-- FREE VALUE. What an address of OUT holds that DXTDEC has not written since the event numbered by the first
argument, a reset or an operation's end in ERROR (R49, R77; log entry 3). -/
opaque Config.freeOut : Nat → Nat → Byte

/-- FREE VALUE. What the host's n-th read of OUT while BUSY returns (R305; log entry 4). -/
opaque Config.freeBusy : Nat → Byte

namespace Fmt

/-- The texture signature "DDS ", as a little-endian word (R92, R152). -/
def signature : Word := 0x20534444#32

/-- 'DXT1' (R94). -/
def dxt1 : Word := 0x31545844#32

/-- 'DXT3' (R94). -/
def dxt3 : Word := 0x33545844#32

/-- 'DXT5' (R94). -/
def dxt5 : Word := 0x35545844#32

/-- DDPF_FOURCC is bit 2 of PF_FLAGS (R93). -/
def hasFourcc (pf : Word) : Bool := pf.getLsbD 2

end Fmt

end Sys2Proof
end

