-- ==== Sys2Proof/Syntax.lean ====
section
/-! DEFINITION. The operations of DXTDEC: one constructor of Instr for each row of spec/opcode_table.json. DXTDEC has
no instruction stream; what it decodes is data, and the data selects its operations (R2, R104). -/

namespace Sys2Proof

/-- VARIANT (R3, R32): none selected, DXT1, DXT3 or DXT5. -/
inductive Variant where
  | unset
  | dxt1
  | dxt3
  | dxt5
deriving DecidableEq, Repr, Inhabited

/-- Which endpoint of the colour pair an expansion works on: C0 to E0, or C1 to E1 (R36, R183). -/
inductive Endpoint where
  | e0
  | e1
deriving DecidableEq, Repr, Inhabited

/-- The two 5-bit channels of a packed endpoint: R5 or B5 (R99). -/
inductive Chan5 where
  | red
  | blue
deriving DecidableEq, Repr, Inhabited

/-- One operation of the table. Operands are the fields of the bytes that select it, where R245 hands those bytes to
the operation (a CTRL word, the variant fields, a block); every other operation reads the registers and latches its
rule names. -/
inductive Instr where
  /-- START: a host write of CTRL with bit 0 = 1 (R241); `hi` is CTRL[31:1], which is ignored (R23). -/
  | start (hi : BitVec 31)
  /-- UNWRAP (R131). -/
  | unwrap
  /-- PASSTHRU (R132). -/
  | passthru
  /-- PARSE_HDR (R151). -/
  | parseHdr
  /-- SEL_DXT1 (R159), under this PF_FLAGS word. -/
  | selDxt1 (pf : Word)
  /-- SEL_DXT3 (R160). -/
  | selDxt3 (pf : Word)
  /-- SEL_DXT5 (R161). -/
  | selDxt5 (pf : Word)
  /-- SEL_UNSUP_FOURCC (R162), under these PF_FLAGS and FOURCC words. -/
  | selUnsupFourcc (pf fourcc : Word)
  /-- SEL_UNSUP_NOFOURCC (R163). -/
  | selUnsupNofourcc (pf fourcc : Word)
  /-- GRID (R158). -/
  | grid
  /-- TRUNC_CHK (R164). -/
  | truncChk
  /-- CAP_CHK (R165). -/
  | capChk
  /-- DEC_DXT1 (R247) of an F-BLK1 with these fields (R95). -/
  | decDxt1 (c0 c1 : Half) (cidx : Word)
  /-- DEC_DXT3 (R248) of an F-BLK3 with these fields (R96, R95). -/
  | decDxt3 (aexp : Long) (c0 c1 : Half) (cidx : Word)
  /-- DEC_DXT5 (R249) of an F-BLK5 with these fields (R97, R95). -/
  | decDxt5 (a0 a1 : Byte) (aidx : BitVec 48) (c0 c1 : Half) (cidx : Word)
  /-- EXP5 (R181) of the R5 or B5 field of C0 or C1, into the channel R183 gives it. -/
  | exp5 (e : Endpoint) (ch : Chan5)
  /-- EXP6 (R182) of the G6 field of C0 or C1. -/
  | exp6 (e : Endpoint)
  /-- EXP565 (R183) of C0 into E0, or C1 into E1. -/
  | exp565 (e : Endpoint)
  /-- CPAL4 (R184). -/
  | cpal4
  /-- CPAL3 (R185). -/
  | cpal3
  /-- CLUT (R189). -/
  | clut
  /-- AEXPL4 (R211). -/
  | aexpl4
  /-- APAL8 (R212). -/
  | apal8
  /-- APAL6 (R213). -/
  | apal6
  /-- ALUT (R215). -/
  | alut
  /-- PIXWR (R250). -/
  | pixwr
  /-- ADVANCE (R251). -/
  | advance
deriving DecidableEq, Repr, Inhabited

end Sys2Proof
end

