-- ==== Sys2Proof/WellFormed.lean ====
section
/-! DEFINITION. Which terms of Instr some input selects: the variant operations carry the PF_FLAGS and FOURCC words that
select them, and R105 says which words those are. Every other term is well formed. -/

namespace Sys2Proof

/-- FOURCC is one of the three words R105 selects a variant by. -/
def supportedFourcc (f : Word) : Bool :=
  f == Fmt.dxt1 || f == Fmt.dxt3 || f == Fmt.dxt5

/-- The term is an operation that R105 (for the variant operations) lets its own words select. -/
def Instr.wellFormed : Instr → Bool
  | .selDxt1 pf => Fmt.hasFourcc pf
  | .selDxt3 pf => Fmt.hasFourcc pf
  | .selDxt5 pf => Fmt.hasFourcc pf
  | .selUnsupFourcc pf fourcc => Fmt.hasFourcc pf && !supportedFourcc fourcc
  | .selUnsupNofourcc pf _ => !Fmt.hasFourcc pf
  | .start _ => true
  | .unwrap => true
  | .passthru => true
  | .parseHdr => true
  | .grid => true
  | .truncChk => true
  | .capChk => true
  | .decDxt1 _ _ _ => true
  | .decDxt3 _ _ _ _ => true
  | .decDxt5 _ _ _ _ _ _ => true
  | .exp5 _ _ => true
  | .exp6 _ => true
  | .exp565 _ => true
  | .cpal4 => true
  | .cpal3 => true
  | .clut => true
  | .aexpl4 => true
  | .apal8 => true
  | .apal6 => true
  | .alut => true
  | .pixwr => true
  | .advance => true

end Sys2Proof
end

