-- ==== Sys2Proof/Decode.lean ====
section
/-! DEFINITION. From bytes to operations (R90 to R106): the byte orders, the bit fields, the decoder for every place of
the sequencer where an operation is picked, and the encoder written from the same tables. -/

namespace Sys2Proof

/-- The little-endian value of a byte list (R12). -/
def le : List Byte → Nat
  | [] => 0
  | b :: bs => b.toNat + 256 * le bs

/-- The big-endian value of a byte list (R12). -/
def be (bs : List Byte) : Nat := le bs.reverse

/-- The n bytes of v, least significant first (R13, MemWrite). -/
def leBytes : Nat → Nat → List Byte
  | 0, _ => []
  | n + 1, v => BitVec.ofNat 8 v :: leBytes n (v / 256)

/-- `bytes[a .. a+n-1]` (R12). -/
def slice (bs : List Byte) (a n : Nat) : List Byte := (bs.drop a).take n

/-- There are fewer than n bytes. -/
def tooShort (bs : List Byte) (n : Nat) : Bool := decide ((bs.take n).length < n)

/-- The little-endian 16-bit value at offset a (R95). -/
def halfAt (bs : List Byte) (a : Nat) : Half := BitVec.ofNat 16 (le (slice bs a 2))

/-- The little-endian 32-bit word at offset a (R92, R95). -/
def wordAt (bs : List Byte) (a : Nat) : Word := BitVec.ofNat 32 (le (slice bs a 4))

/-- The little-endian 48-bit value at offset a (R97). -/
def aidxAt (bs : List Byte) (a : Nat) : BitVec 48 := BitVec.ofNat 48 (le (slice bs a 6))

/-- The little-endian 64-bit value at offset a (R96). -/
def longAt (bs : List Byte) (a : Nat) : Long := BitVec.ofNat 64 (le (slice bs a 8))

/-- The byte at offset a (R97). -/
def byteAt (bs : List Byte) (a : Nat) : Byte := BitVec.ofNat 8 (le (slice bs a 1))

/-- The container header is 20 bytes (R9, R91). -/
def contLen : Nat := 20

/-- The texture header is 128 bytes (R9, R90, R92). -/
def texLen : Nat := 128

/-- The block size of a variant in bytes (R3, R34). -/
def blockBytes : Variant → Nat
  | .unset => 0
  | .dxt1 => 8
  | .dxt3 => 16
  | .dxt5 => 16

/-- The nine bytes of MAGIC (R8, R91). -/
def magicBytes (c : Config) : List Byte := c.magic.toList.map (·.setWidth 8)

/-- The four bytes of TAG (R8, R91). -/
def tagBytes (c : Config) : List Byte := c.tag.toList

/-- A place of the sequencer where the input, or the place alone, picks the operation (R104, R106). -/
inductive Slot where
  /-- A host write of CTRL: four bytes, the word written (R23). -/
  | ctrl
  /-- The container level: the first bytes of IN (R104 item 1). -/
  | container
  /-- The stream level: the first bytes of the stream (R104 item 2). -/
  | stream
  /-- The variant level: header bytes 80 to 87, PF_FLAGS then FOURCC (R104 item 3, R105). -/
  | variant
  /-- After a supported variant is selected (R158). -/
  | grid
  /-- The first check of CHECK (R164). -/
  | trunc
  /-- The second check of CHECK (R165). -/
  | cap
  /-- The block level: one block of the variant (R98, R104 item 5). -/
  | block (v : Variant)
  /-- A 5-bit channel of an endpoint (R181, R183). -/
  | channel5 (e : Endpoint) (ch : Chan5)
  /-- The 6-bit channel of an endpoint (R182, R183). -/
  | channel6 (e : Endpoint)
  /-- An endpoint's expansion: always (R106). -/
  | endpoint (e : Endpoint)
  /-- The colour palette: the four bytes of C0 and C1 (R106, R187). -/
  | palette (v : Variant)
  /-- The colour lookup: always (R106). -/
  | colours
  /-- The alpha palette: the two bytes A0 and A1 of a variant 3 block (R106, R214). -/
  | alphaPalette
  /-- The alpha of every pixel: by VARIANT (R106). -/
  | alphas (v : Variant)
  /-- The pixel write: always, after the above (R106). -/
  | pixels
  /-- The end of a DECODE step (R245). -/
  | cursor
deriving DecidableEq, Repr

/-- Why bytes select no operation at a place. -/
inductive Reject where
  /-- The CTRL word written has bit 0 = 0: it has no effect (R23). -/
  | noStrobe
  /-- Fewer bytes than the place's format has (R90). -/
  | short
  /-- The stream does not begin with the texture signature (R104 item 2, R152). -/
  | signature
  /-- No variant is selected, so no operation is picked (R245, 93_implementation_defined.md I12). -/
  | noVariant
deriving DecidableEq, Repr

/-- R105: the variant these PF_FLAGS and FOURCC words select, or unset where they select none. -/
def variantOf (pf fourcc : Word) : Variant :=
  if Fmt.hasFourcc pf then
    if fourcc = Fmt.dxt1 then .dxt1
    else if fourcc = Fmt.dxt3 then .dxt3
    else if fourcc = Fmt.dxt5 then .dxt5
    else .unset
  else .unset

/-- R105: the variant operation these words select. -/
def variantOp (pf fourcc : Word) : Instr :=
  match variantOf pf fourcc with
  | .dxt1 => .selDxt1 pf
  | .dxt3 => .selDxt3 pf
  | .dxt5 => .selDxt5 pf
  | .unset => if Fmt.hasFourcc pf then .selUnsupFourcc pf fourcc else .selUnsupNofourcc pf fourcc

/-- R187: `MODE3 = (VARIANT = 1) and (C0 <= C1)`, on the packed words. -/
def colourMode3 (v : Variant) (c0 c1 : Half) : Bool :=
  v == .dxt1 && decide (c0.toNat ≤ c1.toNat)

/-- R214: `AMODE6 = (A0 <= A1)`. -/
def alphaMode6 (a0 a1 : Byte) : Bool := decide (a0.toNat ≤ a1.toNat)

/-- A whole block (R98): the fields of F-BLK1, F-BLK3 or F-BLK5, by R95 to R97. -/
def decodeBlock (v : Variant) (bs : List Byte) : Except Reject Instr :=
  match v with
  | .unset => .error .noVariant
  | .dxt1 =>
    if tooShort bs 8 then .error .short
    else .ok (.decDxt1 (halfAt bs 0) (halfAt bs 2) (wordAt bs 4))
  | .dxt3 =>
    if tooShort bs 16 then .error .short
    else .ok (.decDxt3 (longAt bs 0) (halfAt bs 8) (halfAt bs 10) (wordAt bs 12))
  | .dxt5 =>
    if tooShort bs 16 then .error .short
    else .ok (.decDxt5 (byteAt bs 0) (byteAt bs 1) (aidxAt bs 2) (halfAt bs 8) (halfAt bs 10) (wordAt bs 12))

/-- UNWRAP when the input has nine bytes and they equal MAGIC, PASSTHRU for any other input (R104 item 1, R131, R132). -/
def containerOp (c : Config) (bs : List Byte) : Instr :=
  if slice bs 0 9 = magicBytes c then .unwrap else .passthru

/-- The operation the bytes pick at a place, or why they pick none. Total on any bytes (R104 to R106). -/
def decode (c : Config) (slot : Slot) (bs : List Byte) : Except Reject Instr :=
  match slot with
  | .ctrl =>
    if tooShort bs 4 then .error .short
    else if (wordAt bs 0).getLsbD 0 then .ok (.start ((wordAt bs 0).extractLsb' 1 31))
    else .error .noStrobe
  | .container => .ok (containerOp c bs)
  | .stream =>
    if tooShort bs 4 then .error .short
    else if wordAt bs 0 = Fmt.signature then .ok .parseHdr
    else .error .signature
  | .variant => if tooShort bs 8 then .error .short else .ok (variantOp (wordAt bs 0) (wordAt bs 4))
  | .grid => .ok .grid
  | .trunc => .ok .truncChk
  | .cap => .ok .capChk
  | .block v => decodeBlock v bs
  | .channel5 e ch => .ok (.exp5 e ch)
  | .channel6 e => .ok (.exp6 e)
  | .endpoint e => .ok (.exp565 e)
  | .palette v =>
    if v = .unset then .error .noVariant
    else if tooShort bs 4 then .error .short
    else if colourMode3 v (halfAt bs 0) (halfAt bs 2) then .ok .cpal3
    else .ok .cpal4
  | .colours => .ok .clut
  | .alphaPalette =>
    if tooShort bs 2 then .error .short
    else if alphaMode6 (byteAt bs 0) (byteAt bs 1) then .ok .apal6
    else .ok .apal8
  | .alphas v =>
    match v with
    | .dxt3 => .ok .aexpl4
    | .dxt5 => .ok .alut
    | .dxt1 => .error .noVariant
    | .unset => .error .noVariant
  | .pixels => .ok .pixwr
  | .cursor => .ok .advance

/-- The place of the sequencer where an operation is picked. -/
def slotOf : Instr → Slot
  | .start _ => .ctrl
  | .unwrap => .container
  | .passthru => .container
  | .parseHdr => .stream
  | .selDxt1 _ => .variant
  | .selDxt3 _ => .variant
  | .selDxt5 _ => .variant
  | .selUnsupFourcc _ _ => .variant
  | .selUnsupNofourcc _ _ => .variant
  | .grid => .grid
  | .truncChk => .trunc
  | .capChk => .cap
  | .decDxt1 _ _ _ => .block .dxt1
  | .decDxt3 _ _ _ _ => .block .dxt3
  | .decDxt5 _ _ _ _ _ _ => .block .dxt5
  | .exp5 e ch => .channel5 e ch
  | .exp6 e => .channel6 e
  | .exp565 e => .endpoint e
  | .cpal4 => .palette .dxt3
  | .cpal3 => .palette .dxt1
  | .clut => .colours
  | .aexpl4 => .alphas .dxt3
  | .apal8 => .alphaPalette
  | .apal6 => .alphaPalette
  | .alut => .alphas .dxt5
  | .pixwr => .pixels
  | .advance => .cursor

/-- The bytes of an F-CBLK with these fields (R95). -/
def cblkBytes (c0 c1 : Half) (cidx : Word) : List Byte :=
  leBytes 2 c0.toNat ++ (leBytes 2 c1.toNat ++ leBytes 4 cidx.toNat)

/-- Bytes that pick the operation at its place: the fields it carries, by R91 to R98 and R105. Where an operation is
picked by a comparison of fields it does not carry, one choice of those fields; where its place alone picks it, no
bytes. -/
def encode (c : Config) : Instr → List Byte
  | .start hi => leBytes 4 (2 * hi.toNat + 1)
  | .unwrap => magicBytes c
  | .passthru => []
  | .parseHdr => leBytes 4 Fmt.signature.toNat
  | .selDxt1 pf => leBytes 4 pf.toNat ++ leBytes 4 Fmt.dxt1.toNat
  | .selDxt3 pf => leBytes 4 pf.toNat ++ leBytes 4 Fmt.dxt3.toNat
  | .selDxt5 pf => leBytes 4 pf.toNat ++ leBytes 4 Fmt.dxt5.toNat
  | .selUnsupFourcc pf fourcc => leBytes 4 pf.toNat ++ leBytes 4 fourcc.toNat
  | .selUnsupNofourcc pf fourcc => leBytes 4 pf.toNat ++ leBytes 4 fourcc.toNat
  | .grid => []
  | .truncChk => []
  | .capChk => []
  | .decDxt1 c0 c1 cidx => cblkBytes c0 c1 cidx
  | .decDxt3 aexp c0 c1 cidx => leBytes 8 aexp.toNat ++ cblkBytes c0 c1 cidx
  | .decDxt5 a0 a1 aidx c0 c1 cidx => a0 :: a1 :: (leBytes 6 aidx.toNat ++ cblkBytes c0 c1 cidx)
  | .exp5 _ _ => []
  | .exp6 _ => []
  | .exp565 _ => []
  | .cpal4 => [0, 0, 0, 0]
  | .cpal3 => [0, 0, 0, 0]
  | .clut => []
  | .aexpl4 => []
  | .apal8 => [1, 0]
  | .apal6 => [0, 0]
  | .alut => []
  | .pixwr => []
  | .advance => []

/-- The bytes of an instruction of nbits bits numbered as the table numbers them, then zeros up to the longest format
DXTDEC reads, a texture header (R90). -/
def tableBytes (nbits w : Nat) : List Byte :=
  leBytes (nbits / 8) w ++ List.replicate (texLen - nbits / 8) 0

/-- How many bytes tableBytes gives. -/
def tableBytesLen (nbits : Nat) : Nat := max texLen (nbits / 8)

/-- The instruction the decoder reads from an instruction whose bits are w. The table gives a numbered match for one
row, PARSE_HDR, which the stream level reads (R104 item 2). -/
def decodeTableWord (nbits w : Nat) : Option Instr :=
  match decode Config.given .stream (tableBytes nbits w) with
  | .ok i => some i
  | .error _ => none

end Sys2Proof
end

