-- ==== Sys2Proof/Machine/State.lean ====
section
/-! DEFINITION. The state of DXTDEC (10_state.md, 20_memory.md) as plain data, the reasons a step stops, and the state
after reset (R49). -/

namespace Sys2Proof.Machine

/-- STATUS.PHASE (R24). Value 7 is reserved and never held, so it has no constructor. -/
inductive Phase where
  | idle
  | unwrap
  | parse
  | check
  | decode
  | done
  | error
deriving DecidableEq, Repr, Inhabited

/-- ERR.KIND (R25). -/
inductive ErrKind where
  | none
  | formatError
  | unsupportedFormatError
  | truncatedDataError
deriving DecidableEq, Repr, Inhabited

/-- ERR (R25): the kind and the 8-bit cause code. Its other bits read 0. -/
structure Err where
  kind : ErrKind
  cause : Byte
deriving DecidableEq, Repr, Inhabited

/-- The reasons of a refusal (R280). -/
inductive RefuseReason where
  | inLenRange
  | outCap
  | sharedOut
deriving DecidableEq, Repr, Inhabited

/-- What the host can do in its turn (R48, R302, R303). The list State.inbox holds them, oldest first: it is the host's
schedule, an input of the machine (log entry 5). -/
inductive HostMove where
  /-- Write v to the register with this number (R22, R48). -/
  | writeReg (n : Nat) (v : Word)
  /-- Read the register with this number (R22, R48). -/
  | readReg (n : Nat)
  /-- Write these bytes to IN from address a upward (R302). -/
  | writeIn (a : Nat) (bytes : List Byte)
  /-- Read one byte of OUT (R61, R303). -/
  | readOut (a : Nat)
  /-- The platform's reset (R300). -/
  | reset
  /-- The host does nothing in this turn, and the sequencer steps. -/
  | wait
deriving DecidableEq, Repr

/-- A byte space as the bytes written to it: (address, byte) pairs at strictly rising addresses. An address that is not
listed holds no value here; the machine's reads of it give a free value (log entries 2 and 3). -/
abbrev Mem := List Host.Cell

/-- The canonical form: the addresses rise strictly. -/
def Mem.wf : Mem → Bool
  | [] => true
  | [_] => true
  | c :: d :: m => decide (c.1 < d.1) && Mem.wf (d :: m)

/-- Everything the spec gives DXTDEC, and the model's own fields (marked so). -/
structure State where
  /-- MODEL'S OWN: the parameters of R8, which no step changes (log entry 1). -/
  cfg : Config
  /-- STATUS.PHASE (R24). STATUS.BUSY is computed from it. -/
  phase : Phase
  /-- ERR (R25). -/
  err : Err
  /-- IN_LEN (R26). -/
  inLen : Word
  /-- CONT bit 0 (R27). -/
  wrapped : Bool
  /-- CONT bit 1 (R27). -/
  sizeMatch : Bool
  /-- SIZE_FIELD (R28). -/
  sizeField : Word
  /-- BASE (R29). -/
  base : Word
  /-- WIDTH (R30). -/
  width : Word
  /-- HEIGHT (R30). -/
  height : Word
  /-- MIPCOUNT (R30). -/
  mipCount : Word
  /-- PF_FLAGS (R30). -/
  pfFlags : Word
  /-- FOURCC (R30). -/
  fourcc : Word
  /-- VARIANT (R32). -/
  variant : Variant
  /-- BSIZE (R34). -/
  bsize : Word
  /-- BW (R33). -/
  bw : Word
  /-- BH (R33). -/
  bh : Word
  /-- NBLK (R33). -/
  nblk : Long
  /-- BLK, the block cursor (R31). -/
  blk : Long
  /-- C0 (R36). -/
  c0 : Half
  /-- C1 (R36). -/
  c1 : Half
  /-- E0 (R36). -/
  e0 : Rgb
  /-- E1 (R36). -/
  e1 : Rgb
  /-- CPAL[0..3] (R37). -/
  cpal : Vector Colour 4
  /-- CIDX (R38). -/
  cidx : Word
  /-- MODE3 (R39). -/
  mode3 : Bool
  /-- A0 (R40). -/
  a0 : Byte
  /-- A1 (R40). -/
  a1 : Byte
  /-- AIDX (R40). -/
  aidx : BitVec 48
  /-- AEXP (R40). -/
  aexp : Long
  /-- APAL[0..7] (R41). -/
  apal : Vector Byte 8
  /-- AMODE6 (R42). -/
  amode6 : Bool
  /-- PIX[0..15] (R44). -/
  pix : Vector Colour 16
  /-- IN (R60): the bytes the host has written. -/
  input : Mem
  /-- OUT (R61): the bytes DXTDEC has written and no error has made unspecified since. -/
  output : Mem
  /-- The REFUSED mark (R20 item 5, R280), with the reason that last set it (the model's choice, log entry 23). -/
  refused : Option RefuseReason
  /-- MODEL'S OWN: numbers the reset that last left IN unspecified (log entry 2). -/
  inEra : Nat
  /-- MODEL'S OWN: numbers the reset or ERROR that last left OUT unspecified (log entry 3). -/
  outEra : Nat
  /-- MODEL'S OWN: counts the host's reads of OUT while BUSY, for a fresh free value each (log entry 4). -/
  draws : Nat
  /-- MODEL'S OWN: the host's pending moves, oldest first (log entry 5). -/
  inbox : List HostMove
  /-- MODEL'S OWN: what the host's last read returned (log entry 5). -/
  hostData : Long
deriving DecidableEq, Repr

/-- A step's reasons to stop with no next state. -/
inductive Fault where
  /-- A block read that is not below IN_LEN, where R13 leaves MemRead undefined. Raised by the DECODE step. No run
  reaches it (R63). Safe. -/
  | inBounds
  /-- A pixel write that is not below OUT_CAP, where R61 has no address. Raised by PIXWR. No run reaches it (R250).
  Safe. -/
  | outBounds
  /-- PIXWR with BW = 0, where R11 leaves `k // BW` undefined. No run reaches it (R158). Safe. -/
  | noGrid
  /-- DECODE with no variant selected, or with a block shorter than its format (R245, I12). No run reaches it. Safe. -/
  | noVariant
  /-- A host write to an IN address at or above IN_MAX, which does not exist (R60). Raised by the host move. Safe. -/
  | inAddress
  /-- A host read of an OUT address at or above OUT_CAP, which does not exist (R61). Raised by the host move. Safe. -/
  | outAddress
  /-- A host write to IN while BUSY: the spec gives the host no such move (R304, I5). Raised by the host move. Safe for
  hosts that keep the duty. -/
  | inHazard
deriving DecidableEq, Repr

/-- A step's reasons to give no meaning. -/
inductive Refusal where
  /-- The instruction has no meaning in this model yet. Raised by an arm of exec. Safe. -/
  | notModelled (mnemonic : String)
  /-- The situation the spec itself gives no meaning (R280). Raised, once the REFUSED mark is set, by the sequencer's step
  of an operation refused for OUT_CAP, and by every step but a reset of an instance whose OUT is shared (R82). Safe:
  nothing can be proved of a run that reaches one. -/
  | unmeant (r : RefuseReason)
deriving DecidableEq, Repr

/-- Right after reset (R49, R300): IDLE, every host-visible register 0, the REFUSED mark clear, nothing listed in IN or
OUT. The datapath registers are 'unspecified' there and hold 0 here (DESIGN CHOICE, log entry 6); the parameters are
those the machine was built with, whatever they are. -/
def State.reset : State where
  cfg := { Config.given with outShared := false }
  phase := .idle
  err := ⟨.none, 0⟩
  inLen := 0
  wrapped := false
  sizeMatch := false
  sizeField := 0
  base := 0
  width := 0
  height := 0
  mipCount := 0
  pfFlags := 0
  fourcc := 0
  variant := .unset
  bsize := 0
  bw := 0
  bh := 0
  nblk := 0
  blk := 0
  c0 := 0
  c1 := 0
  e0 := ⟨0, 0, 0⟩
  e1 := ⟨0, 0, 0⟩
  cpal := Vector.replicate 4 ⟨0, 0, 0, 0⟩
  cidx := 0
  mode3 := false
  a0 := 0
  a1 := 0
  aidx := 0
  aexp := 0
  apal := Vector.replicate 8 0
  amode6 := false
  pix := Vector.replicate 16 ⟨0, 0, 0, 0⟩
  input := []
  output := []
  refused := none
  inEra := 0
  outEra := 0
  draws := 0
  inbox := []
  hostData := 0

end Sys2Proof.Machine
end

