-- ==== Sys2Proof/Machine/Flags.lean ====
section
/-! DEFINITION. Every flag DXTDEC computes (R45) and the code of every named value a status register shows (R24, R25,
R32). The mode flags MODE3 and AMODE6 select operations and stand in Decode.lean (colourMode3, alphaMode6). -/

namespace Sys2Proof.Machine

/-- STATUS.BUSY is 1 exactly when PHASE is 1, 2, 3 or 4 (R24). -/
def Phase.busy : Phase → Bool
  | .idle => false
  | .unwrap => true
  | .parse => true
  | .check => true
  | .decode => true
  | .done => false
  | .error => false

/-- STATUS bits 2:0 (R24). -/
def Phase.code : Phase → Nat
  | .idle => 0
  | .unwrap => 1
  | .parse => 2
  | .check => 3
  | .decode => 4
  | .done => 5
  | .error => 6

/-- ERR bits 1:0 (R25). -/
def ErrKind.code : ErrKind → Nat
  | .none => 0
  | .formatError => 1
  | .unsupportedFormatError => 2
  | .truncatedDataError => 3

/-- VARIANT bits 1:0 (R32). -/
def variantCode : Variant → Nat
  | .unset => 0
  | .dxt1 => 1
  | .dxt3 => 2
  | .dxt5 => 3

/-- The value of a one-bit flag. -/
def bit (b : Bool) : Nat := if b then 1 else 0

/-- STATUS (R24): PHASE in bits 2:0, BUSY in bit 3, the rest 0. -/
def statusWord (p : Phase) : Long := BitVec.ofNat 64 (p.code + 8 * bit p.busy)

/-- ERR (R25): KIND in bits 1:0, CAUSE in bits 15:8, the rest 0. -/
def errWord (e : Err) : Long := BitVec.ofNat 64 (e.kind.code + 256 * e.cause.toNat)

/-- CONT (R27): WRAPPED in bit 0, SIZE_MATCH in bit 1, the rest 0. -/
def contWord (wrapped sizeMatch : Bool) : Long := BitVec.ofNat 64 (bit wrapped + 2 * bit sizeMatch)

/-- CONT.SIZE_MATCH: `SIZE_FIELD + 1 = IN_LEN - 20`, computed without wrap-around (R136). -/
def sizeMatches (sizeField inLen : Word) : Bool := sizeField.toNat + 1 == inLen.toNat - contLen

end Sys2Proof.Machine
end

