-- ==== Sys2Proof/Machine/Operands.lean ====
section
/-! DEFINITION. Every operand DXTDEC assembles from bits (R99 to R103): the channels of a packed endpoint, the per-pixel
index and alpha fields, and the addresses of blocks and pixels. -/

namespace Sys2Proof.Machine

/-- `ceil4(n) = (n + 3) // 4` (R11). -/
def ceil4 (n : Nat) : Nat := (n + 3) / 4

/-- R5 = C[15:11] (R99). -/
def r5 (c : Half) : BitVec 5 := c.extractLsb' 11 5

/-- G6 = C[10:5] (R99). -/
def g6 (c : Half) : BitVec 6 := c.extractLsb' 5 6

/-- B5 = C[4:0] (R99). -/
def b5 (c : Half) : BitVec 5 := c.extractLsb' 0 5

/-- The 5-bit channel EXP5 expands (R99, R181). -/
def chan5 (ch : Chan5) (c : Half) : BitVec 5 :=
  match ch with
  | .red => r5 c
  | .blue => b5 c

/-- `ci(i) = CIDX[2i+1 : 2i]` (R100). -/
def ci (cidx : Word) (i : Nat) : BitVec 2 := cidx.extractLsb' (2 * i) 2

/-- `ea(i) = AEXP[4i+3 : 4i]` (R96, R101). -/
def ea (aexp : Long) (i : Nat) : BitVec 4 := aexp.extractLsb' (4 * i) 4

/-- `ai(i) = AIDX[3i+2 : 3i]` (R97, R102). -/
def ai (aidx : BitVec 48) (i : Nat) : BitVec 3 := aidx.extractLsb' (3 * i) 3

/-- C0 or C1 (R36). -/
def packed (e : Endpoint) (s : State) : Half :=
  match e with
  | .e0 => s.c0
  | .e1 => s.c1

/-- E0 or E1 (R36). -/
def expanded (e : Endpoint) (s : State) : Rgb :=
  match e with
  | .e0 => s.e0
  | .e1 => s.e1

/-- Write E0 or E1 (R36). -/
def setExpanded (e : Endpoint) (v : Rgb) (s : State) : State :=
  match e with
  | .e0 => { s with e0 := v }
  | .e1 => { s with e1 := v }

/-- The stream's length, `L = IN_LEN - BASE` (R151). -/
def streamLen (s : State) : Nat := s.inLen.toNat - s.base.toNat

/-- Where block BLK starts: `BASE + 128 + k*BSIZE` (R103, R245). -/
def blockAddr (s : State) : Nat := s.base.toNat + texLen + s.blk.toNat * s.bsize.toNat

/-- The length an operation needs: `BASE + 128 + NBLK*BSIZE`, unbounded (R111, R164). -/
def needed (s : State) : Nat := s.base.toNat + texLen + s.nblk.toNat * s.bsize.toNat

/-- The bytes of the image: `WIDTH * HEIGHT * 4` (R165). -/
def imageBytes (s : State) : Nat := s.width.toNat * s.height.toNat * 4

/-- The image column of pixel i of block BLK: `4*bx + (i % 4)` with `bx = k % BW` (R246, R250). -/
def pixelX (s : State) (i : Fin 16) : Nat := 4 * (s.blk.toNat % s.bw.toNat) + i.val % 4

/-- The image row of pixel i of block BLK: `4*by + (i // 4)` with `by = k // BW` (R246, R250). -/
def pixelY (s : State) (i : Fin 16) : Nat := 4 * (s.blk.toNat / s.bw.toNat) + i.val / 4

/-- Pixel i of block BLK lies in the image, so PIXWR writes it (R250). -/
def pixelShown (s : State) (i : Fin 16) : Bool :=
  decide (pixelX s i < s.width.toNat) && decide (pixelY s i < s.height.toNat)

/-- Where PIXWR writes pixel i: `4*(y*WIDTH + x)` (R70, R250). -/
def pixelAddr (s : State) (i : Fin 16) : Nat := 4 * (pixelY s i * s.width.toNat + pixelX s i)

end Sys2Proof.Machine
end

