-- ==== Sys2Proof/Machine/Ops.lean ====
section
/-! DEFINITION. The named operations over IN, OUT and the registers: the reads and writes of the two spaces (R13, R60,
R61), the raise of an error (R271) and what START does beside it (R50), the refusal (R280), and the sequencing of
operations within a step. -/

namespace Sys2Proof.Machine

/-- One step's outcome. -/
abbrev Out := Host.Outcome State Fault Refusal

/-- Run f from the state an operation leaves, unless it stopped. -/
def andThen (o : Out) (f : State → Out) : Out :=
  match o with
  | .next s => f s
  | .fault r => .fault r
  | .refused r => .refused r

/-- The value written at an address, or none where nothing is listed. -/
def memGet : Mem → Nat → Option Byte
  | [], _ => none
  | c :: m, a => if c.1 = a then some c.2 else memGet m a

/-- Write one byte, keeping the addresses strictly rising. -/
def memPut : Mem → Nat → Byte → Mem
  | [], a, b => [(a, b)]
  | c :: m, a, b =>
    if a < c.1 then (a, b) :: c :: m
    else if a = c.1 then (a, b) :: m
    else c :: memPut m a b

/-- Write consecutive bytes from an address upward. The addresses differ, so the order of the single writes is not
visible. -/
def memPutAll (m : Mem) : Nat → List Byte → Mem
  | _, [] => m
  | a, b :: bs => memPut (memPutAll m (a + 1) bs) a b

/-- One byte of IN (R60). A byte the host has not written is a free value (log entry 2). -/
def readIn (s : State) (a : Nat) : Byte :=
  match memGet s.input a with
  | some b => b
  | none => Config.freeIn s.inEra a

/-- One byte of OUT as it stands (R61). A byte DXTDEC has not written, or that an error has made unspecified, is a free
value (log entry 3). -/
def readOut (s : State) (a : Nat) : Byte :=
  match memGet s.output a with
  | some b => b
  | none => Config.freeOut s.outEra a

/-- `IN[a .. a+n-1]`. -/
def inBytes (s : State) (a n : Nat) : List Byte := (List.range' a n).map (readIn s)

/-- MemRead (R13): defined only when `addr + n <= IN_LEN`. -/
def memRead (s : State) (a n : Nat) : Option (List Byte) :=
  if a + n ≤ s.inLen.toNat then some (inBytes s a n) else none

/-- OUT takes unspecified contents (R49, R77): each byte is a free value from now on. -/
def loseOut (s : State) : State := { s with output := [], outEra := s.outEra + 1 }

/-- `raise K(cause)` (R271): ERR takes the kind and the cause, PHASE becomes ERROR (so BUSY becomes 0), and OUT is
unspecified from then on (R77). Nothing else changes, and no handler runs (R270). -/
def raise (k : ErrKind) (cause : Byte) (s : State) : State :=
  { loseOut s with err := ⟨k, cause⟩, phase := .error }

/-- What an accepted START does (R50): IN, IN_LEN and OUT keep their values, every other host-visible register takes
its reset value, and PHASE becomes UNWRAP. It is also the only way out of ERROR but a reset (R277). R50 is silent on the
datapath registers and I1 gives them any value until their first write in a block: that they keep the values they had is
the model's choice (DESIGN CHOICE, log entry 22). -/
def clearForStart (s : State) : State :=
  { s with
    err := ⟨.none, 0⟩, wrapped := false, sizeMatch := false, sizeField := 0, base := 0
    width := 0, height := 0, mipCount := 0, pfFlags := 0, fourcc := 0
    variant := .unset, bsize := 0, bw := 0, bh := 0, nblk := 0, blk := 0
    phase := .unwrap }

/-- `refuse(reason)` (R280): the REFUSED mark is set, and kept until reset. No other state changes (log entry 7). That
the mark holds its reason, and that a later refusal's reason replaces it, is the model's choice (DESIGN CHOICE, log entry
23). -/
def refuse (r : RefuseReason) (s : State) : State := { s with refused := some r }

/-- What a reset leaves (R49, R300): every piece of state at its reset value. The parameters are kept, IN and OUT are
unspecified anew, and the host's own list and last datum are the host's. -/
def resetKeeping (s : State) : State :=
  { State.reset with
    cfg := s.cfg, inEra := s.inEra + 1, outEra := s.outEra + 1, draws := s.draws
    inbox := s.inbox, hostData := s.hostData }

end Sys2Proof.Machine
end

