-- ==== Sys2Proof/Machine/Alpha.lean ====
section
/-! DEFINITION. The alpha LUT expander (43_alpha_block.md): AEXPL4, APAL8, APAL6 and ALUT. -/

namespace Sys2Proof.Machine

/-- `(wx*x + wy*y) // d`, truncating (R212, R213). -/
def weighted (wx wy d : Nat) (x y : Byte) : Byte := BitVec.ofNat 8 ((wx * x.toNat + wy * y.toNat) / d)

/-- The palette of APAL8 (R212). -/
def alpha8 (x y : Byte) : Vector Byte 8 :=
  #v[x, y, weighted 6 1 7 x y, weighted 5 2 7 x y, weighted 4 3 7 x y, weighted 3 4 7 x y, weighted 2 5 7 x y,
    weighted 1 6 7 x y]

/-- The palette of APAL6 (R213). -/
def alpha6 (x y : Byte) : Vector Byte 8 :=
  #v[x, y, weighted 4 1 5 x y, weighted 3 2 5 x y, weighted 2 3 5 x y, weighted 1 4 5 x y, 0, 255]

/-- PIX[i].a takes a value for each pixel; the other channels keep theirs (R211, R215, R216). -/
def setAlphas (f : Fin 16 → Byte) (s : State) : State :=
  { s with pix := Vector.ofFn fun i : Fin 16 => { s.pix[i] with a := f i } }

/-- AEXPL4 on the state: `PIX[i].a <- ea(i) * 17` (R211). -/
def expandSharp (s : State) : State :=
  setAlphas (fun i => BitVec.ofNat 8 ((ea s.aexp i.val).toNat * 17)) s

/-- APAL8 on the state (R212). -/
def buildAlpha8 (s : State) : State := { s with apal := alpha8 s.a0 s.a1, amode6 := false }

/-- APAL6 on the state (R213). -/
def buildAlpha6 (s : State) : State := { s with apal := alpha6 s.a0 s.a1, amode6 := true }

/-- ALUT on the state: `PIX[i].a <- APAL[ai(i)]` (R215). -/
def lookupAlphas (s : State) : State := setAlphas (fun i => s.apal[(ai s.aidx i.val).toNat]) s

/-- AEXPL4 (R211). -/
def execAexpl4 (s : State) : Out := .next (expandSharp s)

/-- APAL8 (R212). -/
def execApal8 (s : State) : Out := .next (buildAlpha8 s)

/-- APAL6 (R213). -/
def execApal6 (s : State) : Out := .next (buildAlpha6 s)

/-- ALUT (R215). -/
def execAlut (s : State) : Out := .next (lookupAlphas s)

end Sys2Proof.Machine
end

