-- ==== Sys2Proof/Machine/Colour.lean ====
section
/-! DEFINITION. The colour-pair interpolator (42_color_block.md): EXP5, EXP6, EXP565, CPAL4, CPAL3 and CLUT. -/

namespace Sys2Proof.Machine

/-- EXP5's value: `e5(v) = (v << 3) | (v >> 2)` (R181). -/
def e5 (v : BitVec 5) : Byte := (v.setWidth 8 <<< 3) ||| (v.setWidth 8 >>> 2)

/-- EXP6's value: `e6(v) = (v << 2) | (v >> 4)` (R182). -/
def e6 (v : BitVec 6) : Byte := (v.setWidth 8 <<< 2) ||| (v.setWidth 8 >>> 4)

/-- EXP565's value (R183). -/
def expand565 (c : Half) : Rgb := ⟨e5 (r5 c), e6 (g6 c), e5 (b5 c)⟩

/-- `(2*x + y) // 3` on one channel, truncating (R184, R186). -/
def twoThirds (x y : Byte) : Byte := BitVec.ofNat 8 ((2 * x.toNat + y.toNat) / 3)

/-- `(x + y) // 2` on one channel, truncating (R185, R186). -/
def midpoint (x y : Byte) : Byte := BitVec.ofNat 8 ((x.toNat + y.toNat) / 2)

/-- An endpoint as an opaque palette entry (R184, R185). -/
def opaqueOf (x : Rgb) : Colour := ⟨x.r, x.g, x.b, 255⟩

/-- The palette of CPAL4 (R184). The second interpolant is the first with the endpoints exchanged. -/
def palette4 (x y : Rgb) : Vector Colour 4 :=
  #v[opaqueOf x, opaqueOf y,
    ⟨twoThirds x.r y.r, twoThirds x.g y.g, twoThirds x.b y.b, 255⟩,
    ⟨twoThirds y.r x.r, twoThirds y.g x.g, twoThirds y.b x.b, 255⟩]

/-- The palette of CPAL3 (R185). -/
def palette3 (x y : Rgb) : Vector Colour 4 :=
  #v[opaqueOf x, opaqueOf y,
    ⟨midpoint x.r y.r, midpoint x.g y.g, midpoint x.b y.b, 255⟩,
    ⟨0, 0, 0, 0⟩]

/-- `E <- EXP565(C)` for one endpoint (R183). -/
def expandInto (e : Endpoint) (s : State) : State := setExpanded e (expand565 (packed e s)) s

/-- CPAL4 on the state (R184). -/
def buildPalette4 (s : State) : State := { s with cpal := palette4 s.e0 s.e1, mode3 := false }

/-- CPAL3 on the state (R185). -/
def buildPalette3 (s : State) : State := { s with cpal := palette3 s.e0 s.e1, mode3 := true }

/-- CLUT on the state: `PIX[i] <- CPAL[ci(i)]` (R189). -/
def lookupColours (s : State) : State :=
  { s with pix := Vector.ofFn fun i : Fin 16 => s.cpal[(ci s.cidx i.val).toNat] }

/-- EXP5 (R181), into the channel of E0 or E1 that R183 gives R5 or B5 (log entry 8). -/
def execExp5 (e : Endpoint) (ch : Chan5) (s : State) : Out :=
  match ch with
  | .red => .next (setExpanded e { expanded e s with r := e5 (chan5 .red (packed e s)) } s)
  | .blue => .next (setExpanded e { expanded e s with b := e5 (chan5 .blue (packed e s)) } s)

/-- EXP6 (R182), into the green channel of E0 or E1 (R183; log entry 8). -/
def execExp6 (e : Endpoint) (s : State) : Out :=
  .next (setExpanded e { expanded e s with g := e6 (g6 (packed e s)) } s)

/-- EXP565 (R183). -/
def execExp565 (e : Endpoint) (s : State) : Out := .next (expandInto e s)

/-- CPAL4 (R184). -/
def execCpal4 (s : State) : Out := .next (buildPalette4 s)

/-- CPAL3 (R185). -/
def execCpal3 (s : State) : Out := .next (buildPalette3 s)

/-- CLUT (R189). -/
def execClut (s : State) : Out := .next (lookupColours s)

end Sys2Proof.Machine
end

