-- ==== Sys2Proof/Machine/Block.lean ====
section
/-! DEFINITION. The block unpacker (44_block_unpack.md): DEC_DXT1, DEC_DXT3, DEC_DXT5, PIXWR and ADVANCE. -/

namespace Sys2Proof.Machine

/-- The colour half's latches (R95, R247 to R249). -/
def latchColour (c0 c1 : Half) (cidx : Word) (s : State) : State := { s with c0 := c0, c1 := c1, cidx := cidx }

/-- `E0 <- EXP565(C0) ; E1 <- EXP565(C1)` (R183). -/
def expandPair (s : State) : State := expandInto .e1 (expandInto .e0 s)

/-- The colour half of variants 2 and 3: CPAL4 always, then CLUT (R218, R248, R249). -/
def colourHalf (c0 c1 : Half) (cidx : Word) (s : State) : State :=
  lookupColours (buildPalette4 (expandPair (latchColour c0 c1 cidx s)))

/-- DEC_DXT1 (R247): CPAL3 when C0 <= C1 (R187, VARIANT = 1), otherwise CPAL4. -/
def execDecDxt1 (c0 c1 : Half) (cidx : Word) (s : State) : Out :=
  if colourMode3 .dxt1 c0 c1 then
    .next (lookupColours (buildPalette3 (expandPair (latchColour c0 c1 cidx s))))
  else
    .next (lookupColours (buildPalette4 (expandPair (latchColour c0 c1 cidx s))))

/-- DEC_DXT3 (R248). -/
def execDecDxt3 (aexp : Long) (c0 c1 : Half) (cidx : Word) (s : State) : Out :=
  .next (expandSharp (colourHalf c0 c1 cidx { s with aexp := aexp }))

/-- The alpha latches and palette of variant 3 (R249): APAL6 when A0 <= A1, otherwise APAL8 (R214). -/
def alphaHalf (a0 a1 : Byte) (aidx : BitVec 48) (s : State) : State :=
  if alphaMode6 a0 a1 then buildAlpha6 { s with a0 := a0, a1 := a1, aidx := aidx }
  else buildAlpha8 { s with a0 := a0, a1 := a1, aidx := aidx }

/-- DEC_DXT5 (R249). -/
def execDecDxt5 (a0 a1 : Byte) (aidx : BitVec 48) (c0 c1 : Half) (cidx : Word) (s : State) : Out :=
  .next (lookupAlphas (colourHalf c0 c1 cidx (alphaHalf a0 a1 aidx s)))

/-- The four bytes MemWrite stores for a pixel: r at the lowest address, then g, b, a (R70, R250). -/
def colourBytes (c : Colour) : List Byte := [c.r, c.g, c.b, c.a]

/-- PIXWR's writes for the pixels listed, in order (R250): a pixel outside the image is dropped, and a write that is not
below OUT_CAP is no write of R61's. -/
def writePixels (s : State) : List (Fin 16) → Mem → Option Mem
  | [], m => some m
  | i :: is, m =>
    if pixelShown s i then
      if pixelAddr s i + 4 ≤ s.cfg.outCap then
        writePixels s is (memPutAll m (pixelAddr s i) (colourBytes s.pix[i]))
      else none
    else writePixels s is m

/-- PIXWR (R250), pixels 0 to 15 in order. -/
def execPixwr (s : State) : Out :=
  if s.bw = 0 then .fault .noGrid
  else
    match writePixels s (List.finRange 16) s.output with
    | some m => .next { s with output := m }
    | none => .fault .outBounds

/-- ADVANCE (R251). -/
def execAdvance (s : State) : Out :=
  if s.blk + 1 = s.nblk then .next { s with blk := s.blk + 1, phase := .done }
  else .next { s with blk := s.blk + 1 }

end Sys2Proof.Machine
end

