-- ==== Sys2Proof/Machine/Container.lean ====
section
/-! DEFINITION. The container header validator (40_container.md): UNWRAP and PASSTHRU. -/

namespace Sys2Proof.Machine

/-- The three PAD bytes IN[9..11] (R134). -/
def padOk (s : State) : Bool := inBytes s 9 3 == [s.cfg.pad, s.cfg.pad, s.cfg.pad]

/-- The four TAG bytes IN[16..19], byte by byte and in order (R135). -/
def tagOk (s : State) : Bool := inBytes s 16 4 == tagBytes s.cfg

/-- SIZE_FIELD <- be(IN[12..15]), and SIZE_MATCH from it (R136). -/
def latchSize (s : State) : State :=
  { s with
    sizeField := BitVec.ofNat 32 (be (inBytes s 12 4))
    sizeMatch := sizeMatches (BitVec.ofNat 32 (be (inBytes s 12 4))) s.inLen }

/-- UNWRAP (R131): WRAPPED is set, then the length check, the latch of the size field, the padding check and the tag
check, in that order (R275); the first that fails raises FormatError, and the writes before it are kept (R271). -/
def execUnwrap (s : State) : Out :=
  if s.inLen.toNat < contLen then
    .next (raise .formatError 0x01 { s with wrapped := true })
  else if !padOk s then
    .next (raise .formatError 0x02 (latchSize { s with wrapped := true }))
  else if !tagOk s then
    .next (raise .formatError 0x03 (latchSize { s with wrapped := true }))
  else
    .next { latchSize { s with wrapped := true } with base := 20, phase := .parse }

/-- PASSTHRU (R132): WRAPPED = 0, SIZE_MATCH = 0, BASE = 0, and PARSE is entered. -/
def execPassthru (s : State) : Out :=
  .next { s with wrapped := false, sizeMatch := false, base := 0, phase := .parse }

end Sys2Proof.Machine
end

