-- ==== Sys2Proof/Machine/Control.lean ====
section
/-! DEFINITION. START (44_block_unpack.md). -/

namespace Sys2Proof.Machine

/-- START (R241): ignored while BUSY (R306), refused when IN_LEN > IN_MAX, otherwise the results are cleared and the
UNWRAP phase entered (R50). CTRL[31:1] is ignored (R23). -/
def execStart (_hi : BitVec 31) (s : State) : Out :=
  if s.phase.busy then .next s
  else if s.cfg.inMax.toNat < s.inLen.toNat then .next (refuse .inLenRange s)
  else .next (clearForStart s)

end Sys2Proof.Machine
end

