-- ==== Sys2Proof/Machine/Texture.lean ====
section
/-! DEFINITION. The texture header parser (41_texture_header.md): PARSE_HDR, the variant operations, GRID, and the two
checks of the CHECK phase. -/

namespace Sys2Proof.Machine

/-- The field latch (R154), from the 128 header bytes at BASE. -/
def latchHeader (s : State) : State :=
  { s with
    height := wordAt (inBytes s s.base.toNat texLen) 12
    width := wordAt (inBytes s s.base.toNat texLen) 16
    mipCount := wordAt (inBytes s s.base.toNat texLen) 28
    pfFlags := wordAt (inBytes s s.base.toNat texLen) 80
    fourcc := wordAt (inBytes s s.base.toNat texLen) 84 }

/-- VARIANT and BSIZE take a selected variant and its block size (R34, R105). -/
def setVariant (v : Variant) (s : State) : State :=
  { s with variant := v, bsize := BitVec.ofNat 32 (blockBytes v) }

/-- BW, BH and NBLK (R33, R158), computed without wrap-around: NBLK is at most 2^60. -/
def setGrid (s : State) : State :=
  { s with
    bw := BitVec.ofNat 32 (ceil4 s.width.toNat)
    bh := BitVec.ofNat 32 (ceil4 s.height.toNat)
    nblk := BitVec.ofNat 64 (ceil4 s.width.toNat * ceil4 s.height.toNat) }

/-- The signature check's failure (R152): the stream has fewer than 4 bytes, or its first word is not "DDS ". -/
def signatureBad (s : State) : Bool :=
  decide (streamLen s < 4) || wordAt (inBytes s s.base.toNat 4) 0 != Fmt.signature

/-- PARSE_HDR after the field latch: the field checks in their order (R155, R163, R162), then the variant (R159 to
R161), GRID (R158), and CHECK. -/
def parseFields (s : State) : State :=
  if s.width = 0 then raise .formatError 0x06 s
  else if s.height = 0 then raise .formatError 0x07 s
  else if !Fmt.hasFourcc s.pfFlags then raise .unsupportedFormatError 0x08 s
  else
    match variantOf s.pfFlags s.fourcc with
    | .dxt1 => { setGrid (setVariant .dxt1 s) with phase := .check }
    | .dxt3 => { setGrid (setVariant .dxt3 s) with phase := .check }
    | .dxt5 => { setGrid (setVariant .dxt5 s) with phase := .check }
    | .unset => raise .unsupportedFormatError 0x09 s

/-- PARSE_HDR (R151): the signature check (R152), the length check (R153), the field latch (R154), and the rest. -/
def execParseHdr (s : State) : Out :=
  if signatureBad s then .next (raise .formatError 0x04 s)
  else if streamLen s < texLen then .next (raise .formatError 0x05 s)
  else .next (parseFields (latchHeader s))

/-- SEL_DXT1 (R159). -/
def execSelDxt1 (_pf : Word) (s : State) : Out := .next (setVariant .dxt1 s)

/-- SEL_DXT3 (R160). -/
def execSelDxt3 (_pf : Word) (s : State) : Out := .next (setVariant .dxt3 s)

/-- SEL_DXT5 (R161). -/
def execSelDxt5 (_pf : Word) (s : State) : Out := .next (setVariant .dxt5 s)

/-- SEL_UNSUP_FOURCC (R162). -/
def execSelUnsupFourcc (_pf _fourcc : Word) (s : State) : Out :=
  .next (raise .unsupportedFormatError 0x09 s)

/-- SEL_UNSUP_NOFOURCC (R163). -/
def execSelUnsupNofourcc (_pf _fourcc : Word) (s : State) : Out :=
  .next (raise .unsupportedFormatError 0x08 s)

/-- GRID (R158). -/
def execGrid (s : State) : Out := .next (setGrid s)

/-- TRUNC_CHK (R164). -/
def execTruncChk (s : State) : Out :=
  if s.inLen.toNat < needed s then .next (raise .truncatedDataError 0x0A s) else .next s

/-- CAP_CHK (R165). -/
def execCapChk (s : State) : Out :=
  if s.cfg.outCap < imageBytes s then .next (refuse .outCap s) else .next s

end Sys2Proof.Machine
end

