-- ==== Sys2Proof/Machine/Dispatch.lean ====
section
/-! DEFINITION. One arm per operation of the table, each a direct call of its meaning. -/

namespace Sys2Proof.Machine

/-- The meaning of one operation on the state. -/
def exec (i : Instr) (s : State) : Host.Outcome State Fault Refusal :=
  match i with
  | .start hi => Sys2Proof.Machine.execStart hi s
  | .unwrap => Sys2Proof.Machine.execUnwrap s
  | .passthru => Sys2Proof.Machine.execPassthru s
  | .parseHdr => Sys2Proof.Machine.execParseHdr s
  | .selDxt1 pf => Sys2Proof.Machine.execSelDxt1 pf s
  | .selDxt3 pf => Sys2Proof.Machine.execSelDxt3 pf s
  | .selDxt5 pf => Sys2Proof.Machine.execSelDxt5 pf s
  | .selUnsupFourcc pf fourcc => Sys2Proof.Machine.execSelUnsupFourcc pf fourcc s
  | .selUnsupNofourcc pf fourcc => Sys2Proof.Machine.execSelUnsupNofourcc pf fourcc s
  | .grid => Sys2Proof.Machine.execGrid s
  | .truncChk => Sys2Proof.Machine.execTruncChk s
  | .capChk => Sys2Proof.Machine.execCapChk s
  | .decDxt1 c0 c1 cidx => Sys2Proof.Machine.execDecDxt1 c0 c1 cidx s
  | .decDxt3 aexp c0 c1 cidx => Sys2Proof.Machine.execDecDxt3 aexp c0 c1 cidx s
  | .decDxt5 a0 a1 aidx c0 c1 cidx => Sys2Proof.Machine.execDecDxt5 a0 a1 aidx c0 c1 cidx s
  | .exp5 e ch => Sys2Proof.Machine.execExp5 e ch s
  | .exp6 e => Sys2Proof.Machine.execExp6 e s
  | .exp565 e => Sys2Proof.Machine.execExp565 e s
  | .cpal4 => Sys2Proof.Machine.execCpal4 s
  | .cpal3 => Sys2Proof.Machine.execCpal3 s
  | .clut => Sys2Proof.Machine.execClut s
  | .aexpl4 => Sys2Proof.Machine.execAexpl4 s
  | .apal8 => Sys2Proof.Machine.execApal8 s
  | .apal6 => Sys2Proof.Machine.execApal6 s
  | .alut => Sys2Proof.Machine.execAlut s
  | .pixwr => Sys2Proof.Machine.execPixwr s
  | .advance => Sys2Proof.Machine.execAdvance s

end Sys2Proof.Machine
end

