-- ==== Sys2Proof/Machine/HostPort.lean ====
section
/-! DEFINITION. The host's side of DXTDEC (R22, R48, R302 to R308): the register map and the host's moves. -/

namespace Sys2Proof.Machine

/-- What a host read of register number n returns (R22). CTRL and the reserved numbers read 0 (R23, R48). -/
def readReg (s : State) (n : Nat) : Long :=
  match n with
  | 0x01 => statusWord s.phase
  | 0x02 => errWord s.err
  | 0x03 => s.inLen.setWidth 64
  | 0x04 => contWord s.wrapped s.sizeMatch
  | 0x05 => s.sizeField.setWidth 64
  | 0x06 => s.base.setWidth 64
  | 0x07 => s.width.setWidth 64
  | 0x08 => s.height.setWidth 64
  | 0x09 => s.mipCount.setWidth 64
  | 0x0A => s.pfFlags.setWidth 64
  | 0x0B => s.fourcc.setWidth 64
  | 0x0C => BitVec.ofNat 64 (variantCode s.variant)
  | 0x0D => s.bsize.setWidth 64
  | 0x0E => s.bw.setWidth 64
  | 0x0F => s.bh.setWidth 64
  | 0x10 => s.nblk
  | 0x11 => s.blk
  | _ => 0

/-- A host write of CTRL (R23): the word picks START, or has no effect. -/
def writeCtrl (v : Word) (s : State) : Out :=
  match decode s.cfg .ctrl (leBytes 4 v.toNat) with
  | .ok i => exec i s
  | .error _ => .next s

/-- A host write of IN_LEN (R26), ignored while BUSY (R307). -/
def writeInLen (v : Word) (s : State) : Out :=
  if s.phase.busy then .next s else .next { s with inLen := v }

/-- A host write to a register (R48): CTRL and IN_LEN take it, every other number ignores it. -/
def writeReg (n : Nat) (v : Word) (s : State) : Out :=
  match n with
  | 0x00 => writeCtrl v s
  | 0x03 => writeInLen v s
  | _ => .next s

/-- A host write to IN (R302). While BUSY the host has no such move (R304), and an address at or above IN_MAX does not
exist (R60). -/
def writeInput (a : Nat) (bytes : List Byte) (s : State) : Out :=
  if s.phase.busy then .fault .inHazard
  else if a + bytes.length ≤ s.cfg.inMax.toNat then .next { s with input := memPutAll s.input a bytes }
  else .fault .inAddress

/-- A host read of one byte of OUT (R61, R303): any value while BUSY (R305; log entry 4), the byte OUT holds otherwise. -/
def readOutput (a : Nat) (s : State) : Out :=
  if s.cfg.outCap ≤ a then .fault .outAddress
  else if s.phase.busy then
    .next { s with hostData := (Config.freeBusy s.draws).setWidth 64, draws := s.draws + 1 }
  else .next { s with hostData := (readOut s a).setWidth 64 }

end Sys2Proof.Machine
end

