-- ==== Sys2Proof/Machine/Sequencer.lean ====
section
/-! DEFINITION. The sequencer (R240 to R252): one atomic step for each phase, one DECODE step for each block; and the
machine's turn, which is the host's move or the sequencer's step. -/

namespace Sys2Proof.Machine

/-- The bytes the UNWRAP phase compares with MAGIC: the first `min(9, IN_LEN)` (R63, R132). -/
def magicWindow (s : State) : List Byte := inBytes s 0 (min 9 s.inLen.toNat)

/-- The UNWRAP phase (R242). -/
def unwrapStep (s : State) : Out := exec (containerOp s.cfg (magicWindow s)) s

/-- Entry to DECODE (R244). -/
def enterDecode (s : State) : State := { s with blk := 0, phase := .decode }

/-- The CHECK phase (R244): TRUNC_CHK, then CAP_CHK unless that raised, then DECODE unless that refused. -/
def checkStep (s : State) : Out :=
  andThen (exec .truncChk s) fun t =>
    if t.phase = .error then .next t
    else
      andThen (exec .capChk t) fun u =>
        if u.refused = some .outCap then .next u else .next (enterDecode u)

/-- The bytes of block BLK, `MemRead(BASE + 128 + k*BSIZE, BSIZE)` (R245). -/
def fetchBlock (s : State) : Option (List Byte) := memRead s (blockAddr s) s.bsize.toNat

/-- The DECODE phase (R245): the block's operation, then PIXWR, then ADVANCE. -/
def decodeStep (s : State) : Out :=
  match fetchBlock s with
  | none => .fault .inBounds
  | some bs =>
    match decode s.cfg (.block s.variant) bs with
    | .error _ => .fault .noVariant
    | .ok i => andThen (exec i s) fun t => andThen (exec .pixwr t) fun u => exec .advance u

/-- One sequencer step (R240), chosen by PHASE. IDLE, DONE and ERROR have none: DXTDEC stays as it is (R252, R288). An
operation that CAP_CHK refused has ended, and the spec gives what follows no meaning (R280; log entry 7). -/
def seqStep (s : State) : Out :=
  match s.phase with
  | .idle => .next s
  | .unwrap => unwrapStep s
  | .parse => exec .parseHdr s
  | .check => if s.refused = some .outCap then .refused (.unmeant .outCap) else checkStep s
  | .decode => decodeStep s
  | .done => .next s
  | .error => .next s

/-- One move of the host, which is no sequencer step (R240, R303); `wait` leaves the turn to the sequencer. -/
def hostMove (m : HostMove) (s : State) : Out :=
  match m with
  | .writeReg n v => writeReg n v s
  | .readReg n => .next { s with hostData := readReg s n }
  | .writeIn a bytes => writeInput a bytes s
  | .readOut a => readOutput a s
  | .reset => .next (resetKeeping s)
  | .wait => seqStep s

/-- The turn of an instance whose OUT another shares (R82, R280): the configuration is refused, which sets the REFUSED
mark, and once it is set there is no meaning but that of a reset, which clears it (R300; log entry 10). -/
def sharedTurn (s : State) : Out :=
  match s.inbox with
  | .reset :: rest => hostMove .reset { s with inbox := rest }
  | _ => if s.refused = some .sharedOut then .refused (.unmeant .sharedOut) else .next (refuse .sharedOut s)

/-- The machine's turn: the host's oldest pending move, or the sequencer's step where the host has none pending. An
instance whose OUT another shares is refused as a configuration (R82). -/
def turn (s : State) : Out :=
  if s.cfg.outShared then sharedTurn s
  else
    match s.inbox with
    | [] => seqStep s
    | m :: rest => hostMove m { s with inbox := rest }

/-- The cells of these bytes from an address upward. -/
def cellsFrom : Nat → List Byte → Mem
  | _, [] => []
  | a, b :: bs => (a, b) :: cellsFrom (a + 1) bs

/-- IN holding these n bytes from address 0 (the rest as before), with PARSE about to read them as an unwrapped stream,
and the turn the sequencer's: the very next step runs the operation they begin with (log entry 9). -/
def placeStream (bytes : List Byte) (n : Nat) (s : State) : State :=
  { s with
    input := cellsFrom 0 bytes ++ s.input.filter (fun c => decide (n ≤ c.1))
    inLen := BitVec.ofNat 32 n
    base := 0
    phase := .parse
    inbox := []
    cfg := { s.cfg with outShared := false } }

end Sys2Proof.Machine
end

