-- ==== Sys2Proof/Machine/Step.lean ====
section
/-! DEFINITION. The step of the machine and the placing of a table word where it is fetched. -/

namespace Sys2Proof.Machine

/-- One step. -/
def step (s : State) : Host.Outcome State Fault Refusal := turn s

/-- s with the instruction of these bits where the next step fetches. -/
def State.withFetchWord (s : State) (nbits w : Nat) : State :=
  placeStream (tableBytes nbits w) (tableBytesLen nbits) s

end Sys2Proof.Machine
end

