-- ==== Sys2Proof/Safety.lean ====
section
/-! DEFINITION. The terms claims are stated in: the invariant of a run, the image an input declares, and what two states
share. -/

namespace Sys2Proof.Machine

/-- The turn is the sequencer's: the host has no move pending, and OUT is this instance's own (R82). -/
def Quiet (s : State) : Prop := s.inbox = [] ∧ s.cfg.outShared = false

/-- The header registers hold their START values (R47, R50). -/
structure HeaderClear (s : State) : Prop where
  width : s.width = 0
  height : s.height = 0
  mipCount : s.mipCount = 0
  pfFlags : s.pfFlags = 0
  fourcc : s.fourcc = 0
  variant : s.variant = .unset
  bw : s.bw = 0
  bh : s.bh = 0
  nblk : s.nblk = 0
  blk : s.blk = 0

/-- The container registers hold their START values (R47, R50). -/
structure ContainerClear (s : State) : Prop where
  wrapped : s.wrapped = false
  sizeMatch : s.sizeMatch = false
  sizeField : s.sizeField = 0
  base : s.base = 0

/-- What PARSE leaves when it ends in CHECK (R47, R151): a variant, an image with both dimensions, and its grid. -/
structure GridReady (s : State) : Prop where
  variant : s.variant ≠ .unset
  width : s.width ≠ 0
  height : s.height ≠ 0
  bw : s.bw.toNat = ceil4 s.width.toNat
  bh : s.bh.toNat = ceil4 s.height.toNat
  nblk : s.nblk.toNat = ceil4 s.width.toNat * ceil4 s.height.toNat

/-- What CHECK leaves when it ends in DECODE (R164, R165): every block lies in the input, and the image in OUT. -/
structure BlocksReady (s : State) : Prop where
  inputs : needed s ≤ s.inLen.toNat
  image : imageBytes s ≤ s.cfg.outCap

/-- The kinds and cause codes the spec lists (R272 to R274). -/
def listedErr (e : Err) : Bool :=
  match e.kind with
  | .none => e.cause == 0
  | .formatError => decide (1 ≤ e.cause.toNat) && decide (e.cause.toNat ≤ 7)
  | .unsupportedFormatError => e.cause == 8 || e.cause == 9
  | .truncatedDataError => e.cause == 10

/-- The invariant of every run of DXTDEC. -/
structure Inv (s : State) : Prop where
  /-- IN and OUT are in canonical form. -/
  inputCanon : Mem.wf s.input = true
  outputCanon : Mem.wf s.output = true
  /-- IN and OUT list only addresses that exist (R60, R61). -/
  inputBound : ∀ c ∈ s.input, c.1 < s.cfg.inMax.toNat
  outputBound : ∀ c ∈ s.output, c.1 < s.cfg.outCap
  /-- KIND and CAUSE are a pair the spec lists (R25, R272 to R274). -/
  errListed : listedErr s.err = true
  /-- ERR is set exactly in ERROR (R24, R25, R50, R271). -/
  errPhase : s.err.kind = .none ↔ s.phase ≠ .error
  /-- BASE is 0 or 20 (R29). -/
  baseLegal : s.base = 0 ∨ s.base = 20
  /-- SIZE_MATCH = 1 only with WRAPPED = 1 (R27). -/
  sizeFlag : s.sizeMatch = true → s.wrapped = true
  /-- BSIZE is the block size of VARIANT (R34). -/
  blockSize : s.bsize.toNat = blockBytes s.variant
  /-- While BUSY, IN_LEN is in range and the stream starts inside the input (R26, R151). -/
  busyInLen : s.phase.busy = true → s.inLen.toNat ≤ s.cfg.inMax.toNat ∧ s.base.toNat ≤ s.inLen.toNat
  /-- The results are their START values until the phase that writes them (R47). -/
  idleClear : s.phase = .idle → ContainerClear s ∧ HeaderClear s
  unwrapClear : s.phase = .unwrap → ContainerClear s ∧ HeaderClear s
  parseClear : s.phase = .parse → HeaderClear s
  /-- CHECK: the grid is ready, and BLK still 0 (R151, R244). -/
  checkReady : s.phase = .check → GridReady s ∧ s.blk = 0
  /-- DECODE: the blocks are ready, and BLK is one of them (R244, R251). -/
  decodeReady : s.phase = .decode → GridReady s ∧ BlocksReady s ∧ s.blk.toNat < s.nblk.toNat
  /-- An operation refused for OUT_CAP has ended in CHECK, and only a reset clears its mark (R280; log entry 7). -/
  capMark : s.refused = some .outCap → s.phase = .check
  /-- DONE: every block has been decoded (R251). -/
  doneReady : s.phase = .done → GridReady s ∧ s.blk = s.nblk ∧ imageBytes s ≤ s.cfg.outCap

/-- The colours of a colour half with these fields, for a variant (R183 to R189). -/
def colourOf (v : Variant) (c0 c1 : Half) (cidx : Word) (i : Fin 16) : Colour :=
  let p := if colourMode3 v c0 c1 then palette3 (expand565 c0) (expand565 c1)
    else palette4 (expand565 c0) (expand565 c1)
  p[(ci cidx i.val).toNat]

/-- The alphas of an F-IABLK with these fields (R212 to R215). -/
def alphaOf (a0 a1 : Byte) (aidx : BitVec 48) (i : Fin 16) : Byte :=
  let p := if alphaMode6 a0 a1 then alpha6 a0 a1 else alpha8 a0 a1
  p[(ai aidx i.val).toNat]

/-- Pixel i of a block with these bytes: a function of the block and the variant alone (R255). -/
def blockPixel (v : Variant) (bs : List Byte) (i : Fin 16) : Colour :=
  match v with
  | .dxt1 => colourOf .dxt1 (halfAt bs 0) (halfAt bs 2) (wordAt bs 4) i
  | .dxt3 =>
    { colourOf .dxt3 (halfAt bs 8) (halfAt bs 10) (wordAt bs 12) i with
      a := BitVec.ofNat 8 ((ea (longAt bs 0) i.val).toNat * 17) }
  | .dxt5 =>
    { colourOf .dxt5 (halfAt bs 8) (halfAt bs 10) (wordAt bs 12) i with
      a := alphaOf (byteAt bs 0) (byteAt bs 1) (aidxAt bs 2) i }
  | .unset => ⟨0, 0, 0, 0⟩

/-- The block that holds pixel (x, y): `k = (y // 4) * BW + (x // 4)` (R253). -/
def blockOf (s : State) (x y : Nat) : Nat := y / 4 * s.bw.toNat + x / 4

/-- Where pixel (x, y) stands in its block: `i = (y % 4) * 4 + (x % 4)` (R253). -/
def slotInBlock (x y : Nat) : Fin 16 := ⟨y % 4 * 4 + x % 4, by omega⟩

/-- The bytes of block k (R103). -/
def blockBytesAt (s : State) (k : Nat) : List Byte :=
  inBytes s (s.base.toNat + texLen + k * s.bsize.toNat) s.bsize.toNat

/-- Pixel (x, y) of the image the input declares. -/
def imagePixel (s : State) (x y : Nat) : Colour :=
  blockPixel s.variant (blockBytesAt s (blockOf s x y)) (slotInBlock x y)

/-- OUT holds this colour as the pixel at this address: r, g, b, a at rising addresses (R70). -/
def HoldsPixel (s : State) (addr : Nat) (c : Colour) : Prop :=
  readOut s addr = c.r ∧ readOut s (addr + 1) = c.g ∧ readOut s (addr + 2) = c.b ∧ readOut s (addr + 3) = c.a

/-- The little-endian 32-bit value of IN[a .. a+3] (R12). -/
def inWord (s : State) (a : Nat) : Nat :=
  (readIn s a).toNat + (readIn s (a + 1)).toNat * 2 ^ 8 + (readIn s (a + 2)).toNat * 2 ^ 16 +
    (readIn s (a + 3)).toNat * 2 ^ 24

/-- The big-endian 32-bit value of IN[a .. a+3] (R12). -/
def inWordBe (s : State) (a : Nat) : Nat :=
  (readIn s a).toNat * 2 ^ 24 + (readIn s (a + 1)).toNat * 2 ^ 16 + (readIn s (a + 2)).toNat * 2 ^ 8 +
    (readIn s (a + 3)).toNat

/-- IN begins with the nine bytes of MAGIC, and has them all (R131). -/
def BeginsWithMagic (s : State) : Prop :=
  9 ≤ s.inLen.toNat ∧ ∀ j : Fin 9, readIn s j.val = (s.cfg.magic[j]).setWidth 8

/-- The three bytes at offset 9 equal PAD (R134). -/
def PaddingRight (s : State) : Prop := readIn s 9 = s.cfg.pad ∧ readIn s 10 = s.cfg.pad ∧ readIn s 11 = s.cfg.pad

/-- The four bytes at offset 16 equal TAG (R135). -/
def TagRight (s : State) : Prop := ∀ j : Fin 4, readIn s (16 + j.val) = s.cfg.tag[j]

/-- The stream begins with the texture signature, and has those four bytes (R152). -/
def BeginsWithSignature (s : State) : Prop := 4 ≤ streamLen s ∧ inWord s s.base.toNat = 0x20534444

/-- s with the five header registers as R154 latches them from the stream. -/
def withHeader (s : State) : State :=
  { s with
    height := BitVec.ofNat 32 (inWord s (s.base.toNat + 12))
    width := BitVec.ofNat 32 (inWord s (s.base.toNat + 16))
    mipCount := BitVec.ofNat 32 (inWord s (s.base.toNat + 28))
    pfFlags := BitVec.ofNat 32 (inWord s (s.base.toNat + 80))
    fourcc := BitVec.ofNat 32 (inWord s (s.base.toNat + 84)) }

/-- The colour's r, g and b are f of the two endpoints' channels, each on its own (R14, R186). -/
def Blends (f : Nat → Nat → Nat) (x y : Rgb) (c : Colour) : Prop :=
  c.r.toNat = f x.r.toNat y.r.toNat ∧ c.g.toNat = f x.g.toNat y.g.toNat ∧ c.b.toNat = f x.b.toNat y.b.toNat

/-- Every byte of IN and OUT reads as before. -/
def SameBytes (s t : State) : Prop := ∀ a, readIn t a = readIn s a ∧ readOut t a = readOut s a

/-- t differs from s in nothing but the datapath registers (R20 item 2, R36 to R44). -/
def OnlyDatapath (s t : State) : Prop :=
  t = { s with
    c0 := t.c0, c1 := t.c1, e0 := t.e0, e1 := t.e1, cpal := t.cpal, cidx := t.cidx, mode3 := t.mode3
    a0 := t.a0, a1 := t.a1, aidx := t.aidx, aexp := t.aexp, apal := t.apal, amode6 := t.amode6, pix := t.pix }

/-- t differs from s in nothing but ERR, PHASE and the contents of OUT: what a raise writes (R271, R77). -/
def RaisedFrom (s t : State) (k : ErrKind) (cause : Byte) : Prop :=
  t = { s with err := ⟨k, cause⟩, phase := .error, output := t.output, outEra := t.outEra } ∧
    ∀ a, readOut t a = Config.freeOut (s.outEra + 1) a

/-- The same parameters, host-visible registers and REFUSED mark, the sequencer's turn in both, and the same input below
IN_LEN: all that a step's result may depend on (R254). -/
structure SameJob (s t : State) : Prop where
  quiet : Quiet s ∧ Quiet t
  cfg : t.cfg = s.cfg
  phase : t.phase = s.phase
  err : t.err = s.err
  inLen : t.inLen = s.inLen
  container : t.wrapped = s.wrapped ∧ t.sizeMatch = s.sizeMatch ∧ t.sizeField = s.sizeField ∧ t.base = s.base
  header : t.width = s.width ∧ t.height = s.height ∧ t.mipCount = s.mipCount ∧ t.pfFlags = s.pfFlags ∧
    t.fourcc = s.fourcc
  grid : t.variant = s.variant ∧ t.bsize = s.bsize ∧ t.bw = s.bw ∧ t.bh = s.bh ∧ t.nblk = s.nblk ∧ t.blk = s.blk
  refused : t.refused = s.refused
  input : ∀ a, a < s.inLen.toNat → readIn t a = readIn s a

end Sys2Proof.Machine
end

