-- ==== Sys2Proof/Certificates/Slice0/Obligations.lean ====
section
/-! DEFINITION. The statements for the provers, from the spec's numbered rules. -/

open Sys2Proof Sys2Proof.Machine

/-! ### Encodings -/

/-- Words written out from R23, R92, R94, R95, R96 and R97 decode to the operations they stand for. -/
def Obligations.SpecWordsDecode : Prop :=
  ∀ c : Config,
    decode c .stream [0x44, 0x44, 0x53, 0x20] = .ok .parseHdr ∧
    decode c .stream [0x20, 0x53, 0x44, 0x44] = .error .signature ∧
    decode c .ctrl [0x01, 0x00, 0x00, 0x00] = .ok (.start 0) ∧
    decode c .ctrl [0xFE, 0xFF, 0xFF, 0xFF] = .error .noStrobe ∧
    decode c .variant [0x04, 0, 0, 0, 0x44, 0x58, 0x54, 0x31] = .ok (.selDxt1 4) ∧
    decode c .variant [0x04, 0, 0, 0, 0x44, 0x58, 0x54, 0x33] = .ok (.selDxt3 4) ∧
    decode c .variant [0x04, 0, 0, 0, 0x44, 0x58, 0x54, 0x35] = .ok (.selDxt5 4) ∧
    decode c (.block .dxt1) [0x00, 0xF8, 0x1F, 0x00, 0xE4, 0x1B, 0xF0, 0xA5] =
      .ok (.decDxt1 0xF800 0x001F 0xA5F01BE4) ∧
    decode c (.block .dxt3)
      [0x10, 0x32, 0x54, 0x76, 0x98, 0xBA, 0xDC, 0xFE, 0x1F, 0x00, 0x00, 0xF8, 0xE4, 0xE4, 0xE4, 0xE4] =
      .ok (.decDxt3 0xFEDCBA9876543210 0x001F 0xF800 0xE4E4E4E4) ∧
    decode c (.block .dxt5)
      [0xFF, 0x00, 0x88, 0xC6, 0xFA, 0x88, 0xC6, 0xFA, 0x34, 0x12, 0x78, 0x56, 0xE4, 0xE4, 0xE4, 0xE4] =
      .ok (.decDxt5 0xFF 0x00 0xFAC688FAC688 0x1234 0x5678 0xE4E4E4E4)

/-- Decoding the bytes of a well-formed operation, at the place where it is picked, gives it back with every operand it
carries, for all 27 operations. -/
def Obligations.DecodeOfEncode : Prop :=
  ∀ (c : Config) (i : Instr), i.wellFormed = true → decode c (slotOf i) (encode c i) = .ok i

/-- R109 (which the spec marks as derived from R184, R185, R212 and R213): every block of the variant's length decodes, with every bit kept, to an operation that completes, fills all
sixteen pixels from the block and the variant alone, and changes nothing but the datapath: no error. -/
def Obligations.BlockEncodingsAreTotal : Prop :=
  ∀ (c : Config) (v : Variant) (bs : List Byte) (s : State), v ≠ .unset → bs.length = blockBytes v →
    ∃ i t, decode c (.block v) bs = .ok i ∧ encode c i = bs ∧ exec i s = .next t ∧
      (∀ j : Fin 16, t.pix[j] = blockPixel v bs j) ∧ OnlyDatapath s t

/-- R105: the variant selection table, row by row, on the words of header bytes 80 to 87. -/
def Obligations.VariantTable : Prop :=
  ∀ (c : Config) (pf f : Word),
    let bytes := leBytes 4 pf.toNat ++ leBytes 4 f.toNat
    (pf.getLsbD 2 = true → f = 0x31545844#32 → decode c .variant bytes = .ok (.selDxt1 pf)) ∧
    (pf.getLsbD 2 = true → f = 0x33545844#32 → decode c .variant bytes = .ok (.selDxt3 pf)) ∧
    (pf.getLsbD 2 = true → f = 0x35545844#32 → decode c .variant bytes = .ok (.selDxt5 pf)) ∧
    (pf.getLsbD 2 = true → f ≠ 0x31545844#32 → f ≠ 0x33545844#32 → f ≠ 0x35545844#32 →
      decode c .variant bytes = .ok (.selUnsupFourcc pf f)) ∧
    (pf.getLsbD 2 = false → decode c .variant bytes = .ok (.selUnsupNofourcc pf f))

/-- Whatever the bytes and the place, what the decoder picks is well formed. -/
def Obligations.DecodedIsWellFormed : Prop :=
  ∀ (c : Config) (slot : Slot) (bs : List Byte) (i : Instr), decode c slot bs = .ok i → i.wellFormed = true

/-! ### The step -/

/-- A step runs the decoded operation: in the UNWRAP and PARSE phases it is exec of it, and in PARSE it is PARSE_HDR on a
stream that decodes to none too, which raises the signature error (R104 item 2, R243). In DECODE it is exec of it and then
PIXWR and ADVANCE, a move at the head of the host's list is that move on the rest of the list, a wait there is the
sequencer's step whatever moves stand behind it, a CTRL write is exec of the operation the word picks, and the step at a
placed table word is exec of what the decoder reads from it. The host's list is the model's (log entry 5), and so is the
placed word (log entry 9). -/
def Obligations.StepRunsDecodedOperation : Prop :=
  (∀ (s : State) (i : Instr), Quiet s → s.phase = .unwrap →
    decode s.cfg .container (magicWindow s) = .ok i → step s = exec i s) ∧
  (∀ (s : State) (i : Instr), Quiet s → s.phase = .parse →
    decode s.cfg .stream (inBytes s s.base.toNat (min 4 (streamLen s))) = .ok i → step s = exec i s) ∧
  (∀ s : State, Quiet s → s.phase = .parse → step s = exec .parseHdr s) ∧
  (∀ (s : State) (bs : List Byte) (i : Instr), Quiet s → s.phase = .decode → fetchBlock s = some bs →
    decode s.cfg (.block s.variant) bs = .ok i →
    step s = andThen (exec i s) fun t => andThen (exec .pixwr t) fun u => exec .advance u) ∧
  (∀ (s : State) (m : HostMove) (rest : List HostMove), s.cfg.outShared = false → s.inbox = m :: rest →
    step s = hostMove m { s with inbox := rest }) ∧
  (∀ (s : State) (rest : List HostMove), s.cfg.outShared = false → s.inbox = .wait :: rest →
    step s = andThen (step { s with inbox := [] }) fun t => .next { t with inbox := rest }) ∧
  (∀ (s : State) (v : Word) (rest : List HostMove) (i : Instr), s.cfg.outShared = false →
    s.inbox = .writeReg 0 v :: rest → decode s.cfg .ctrl (leBytes 4 v.toNat) = .ok i →
    step s = exec i { s with inbox := rest }) ∧
  (∀ (s : State) (nbits w : Nat) (i : Instr), decodeTableWord nbits w = some i →
    step (s.withFetchWord nbits w) = exec i (s.withFetchWord nbits w))

/-- R242: the UNWRAP phase performs UNWRAP if the nine bytes are there and equal MAGIC, and PASSTHRU otherwise; either
ends in PARSE, or, for UNWRAP only, in ERROR. -/
def Obligations.UnwrapPhase : Prop :=
  ∀ s : State, Quiet s → s.phase = .unwrap →
    (BeginsWithMagic s → step s = exec .unwrap s ∧
      ∃ t, step s = .next t ∧ (t.phase = .parse ∨ t.phase = .error)) ∧
    (¬ BeginsWithMagic s → step s = exec .passthru s ∧ ∃ t, step s = .next t ∧ t.phase = .parse)

/-- R244: the CHECK phase performs TRUNC_CHK, then CAP_CHK, then enters DECODE at block 0, of which there is one. That a refusal is a
next state with the REFUSED mark and nothing else changed is the model's (log entry 7). -/
def Obligations.CheckPhase : Prop :=
  ∀ s : State, Quiet s → s.phase = .check → s.refused ≠ some .outCap →
    (s.inLen.toNat < s.base.toNat + 128 + s.nblk.toNat * s.bsize.toNat →
      ∃ t, step s = .next t ∧ RaisedFrom s t .truncatedDataError 0x0A) ∧
    (s.base.toNat + 128 + s.nblk.toNat * s.bsize.toNat ≤ s.inLen.toNat →
      s.cfg.outCap < s.width.toNat * s.height.toNat * 4 →
      step s = .next { s with refused := some .outCap }) ∧
    (s.base.toNat + 128 + s.nblk.toNat * s.bsize.toNat ≤ s.inLen.toNat →
      s.width.toNat * s.height.toNat * 4 ≤ s.cfg.outCap →
      step s = .next { s with blk := 0, phase := .decode }) ∧
    (Inv s → 1 ≤ s.nblk.toNat)

/-- The DECODE step of a run (R245, R247 to R251, R103): it decodes block BLK, writes that block's pixels that lie in the
image and nothing else of OUT, and moves BLK on, to DONE after the last block. -/
def Obligations.DecodePhase : Prop :=
  ∀ s : State, Inv s → Quiet s → s.phase = .decode →
    ∃ t, step s = .next t ∧
      (∀ i : Fin 16, pixelShown s i = true →
        HoldsPixel t (pixelAddr s i) (blockPixel s.variant (blockBytesAt s s.blk.toNat) i)) ∧
      (∀ a, (∀ i : Fin 16, pixelShown s i = true → a < pixelAddr s i ∨ pixelAddr s i + 4 ≤ a) →
        readOut t a = readOut s a) ∧
      t.blk.toNat = s.blk.toNat + 1 ∧
      (t.phase = if s.blk.toNat + 1 = s.nblk.toNat then .done else .decode) ∧
      OnlyDatapath { s with output := t.output, blk := t.blk, phase := t.phase } t

/-- R288: IDLE, DONE and ERROR have no step, every register keeps its value in them, and nothing the host does but a
START or a reset leaves them. That a step without a move answers the same state is the model's (log entry 9). -/
def Obligations.WaitingPhases : Prop :=
  ∀ s : State, s.phase.busy = false → s.cfg.outShared = false →
    (s.inbox = [] → step s = .next s) ∧
    (∀ (m : HostMove) (rest : List HostMove) (t : State), s.inbox = m :: rest → step s = .next t →
      t.phase ≠ s.phase → m = .reset ∨ ∃ v : Word, v.getLsbD 0 = true ∧ m = .writeReg 0 v)

/-- R241 and R50: START is ignored while BUSY; otherwise an IN_LEN above IN_MAX is refused; otherwise the results take
their reset values and UNWRAP is entered. IN, IN_LEN, OUT, the datapath and the REFUSED mark keep theirs. That a refusal is a next
state with the mark and nothing else changed is the model's (log entry 7), and so is that the datapath keeps its values
(log entry 22). -/
def Obligations.StartStrobe : Prop :=
  ∀ (hi : BitVec 31) (s : State),
    (s.phase.busy = true → exec (.start hi) s = .next s) ∧
    (s.phase.busy = false → s.cfg.inMax.toNat < s.inLen.toNat →
      exec (.start hi) s = .next { s with refused := some .inLenRange }) ∧
    (s.phase.busy = false → s.inLen.toNat ≤ s.cfg.inMax.toNat →
      exec (.start hi) s = .next
        { s with
          phase := .unwrap, err := ⟨.none, 0⟩, wrapped := false, sizeMatch := false, sizeField := 0, base := 0
          width := 0, height := 0, mipCount := 0, pfFlags := 0, fourcc := 0, variant := .unset, bsize := 0
          bw := 0, bh := 0, nblk := 0, blk := 0 })

/-- R23: CTRL. Bit 0 written 1 is START, written 0 has no effect, bits 31:1 do not matter, and a read returns 0. -/
def Obligations.CtrlRegister : Prop :=
  ∀ (s : State) (v : Word),
    (v.getLsbD 0 = false → hostMove (.writeReg 0 v) s = .next s) ∧
    (v.getLsbD 0 = true → hostMove (.writeReg 0 v) s = exec (.start 0) s) ∧
    readReg s 0 = 0

/-- R306 and R307: while BUSY, a write of CTRL or of IN_LEN is ignored. -/
def Obligations.BusyWritesIgnored : Prop :=
  ∀ (s : State) (v : Word), s.phase.busy = true →
    hostMove (.writeReg 0 v) s = .next s ∧ hostMove (.writeReg 3 v) s = .next s

/-- R48: a register read has no effect on DXTDEC, the host writes CTRL and IN_LEN only, and the reserved numbers read 0. -/
def Obligations.HostRegisterAccess : Prop :=
  ∀ (s : State) (n : Nat),
    hostMove (.readReg n) s = .next { s with hostData := readReg s n } ∧
    (∀ v : Word, n ≠ 0 → n ≠ 3 → hostMove (.writeReg n v) s = .next s) ∧
    (∀ v : Word, s.phase.busy = false → hostMove (.writeReg 3 v) s = .next { s with inLen := v }) ∧
    (0x12 ≤ n → readReg s n = 0)

/-- The words of the packed registers (R24, R25, R27, R32), number by number, and the values of the others (R22). -/
def Obligations.RegisterMap : Prop :=
  ∀ s : State,
    ((s.phase = .idle → readReg s 1 = 0) ∧ (s.phase = .unwrap → readReg s 1 = 1 + 8) ∧
      (s.phase = .parse → readReg s 1 = 2 + 8) ∧ (s.phase = .check → readReg s 1 = 3 + 8) ∧
      (s.phase = .decode → readReg s 1 = 4 + 8) ∧ (s.phase = .done → readReg s 1 = 5) ∧
      (s.phase = .error → readReg s 1 = 6)) ∧
    (s.phase.busy = true ↔ s.phase = .unwrap ∨ s.phase = .parse ∨ s.phase = .check ∨ s.phase = .decode) ∧
    ((s.err.kind = .none → (readReg s 2).toNat = 0 + 256 * s.err.cause.toNat) ∧
      (s.err.kind = .formatError → (readReg s 2).toNat = 1 + 256 * s.err.cause.toNat) ∧
      (s.err.kind = .unsupportedFormatError → (readReg s 2).toNat = 2 + 256 * s.err.cause.toNat) ∧
      (s.err.kind = .truncatedDataError → (readReg s 2).toNat = 3 + 256 * s.err.cause.toNat)) ∧
    ((s.variant = .unset → readReg s 12 = 0) ∧ (s.variant = .dxt1 → readReg s 12 = 1) ∧
      (s.variant = .dxt3 → readReg s 12 = 2) ∧ (s.variant = .dxt5 → readReg s 12 = 3)) ∧
    ((readReg s 1).toNat % 8 = s.phase.code ∧ (readReg s 1).getLsbD 3 = s.phase.busy ∧ (readReg s 1).toNat < 16) ∧
    ((readReg s 2).toNat % 4 = s.err.kind.code ∧ (readReg s 2).toNat / 256 = s.err.cause.toNat ∧
      (readReg s 2).toNat / 4 % 64 = 0) ∧
    ((readReg s 4).getLsbD 0 = s.wrapped ∧ (readReg s 4).getLsbD 1 = s.sizeMatch ∧ (readReg s 4).toNat < 4) ∧
    (readReg s 3).toNat = s.inLen.toNat ∧ (readReg s 5).toNat = s.sizeField.toNat ∧
    (readReg s 6).toNat = s.base.toNat ∧ (readReg s 7).toNat = s.width.toNat ∧
    (readReg s 8).toNat = s.height.toNat ∧ (readReg s 9).toNat = s.mipCount.toNat ∧
    (readReg s 10).toNat = s.pfFlags.toNat ∧ (readReg s 11).toNat = s.fourcc.toNat ∧
    (readReg s 12).toNat = variantCode s.variant ∧ (readReg s 13).toNat = s.bsize.toNat ∧
    (readReg s 14).toNat = s.bw.toNat ∧ (readReg s 15).toNat = s.bh.toNat ∧
    readReg s 16 = s.nblk ∧ readReg s 17 = s.blk

/-! ### The container header validator -/

/-- R131, R134, R135, R136: UNWRAP is the step of an input that begins with MAGIC, with its checks in their order.
SIZE_FIELD is latched before the padding check and the cross-check does not wrap. -/
def Obligations.UnwrapMeaning : Prop :=
  ∀ s : State,
    let w := { s with wrapped := true }
    let l := { w with
      sizeField := BitVec.ofNat 32 (inWordBe s 12)
      sizeMatch := decide (inWordBe s 12 + 1 + 20 = s.inLen.toNat) }
    (Quiet s → s.phase = .unwrap → BeginsWithMagic s → step s = exec .unwrap s) ∧
    (s.inLen.toNat < 20 → ∃ t, exec .unwrap s = .next t ∧ RaisedFrom w t .formatError 0x01) ∧
    (20 ≤ s.inLen.toNat → ¬ PaddingRight s →
      ∃ t, exec .unwrap s = .next t ∧ RaisedFrom l t .formatError 0x02) ∧
    (20 ≤ s.inLen.toNat → PaddingRight s → ¬ TagRight s →
      ∃ t, exec .unwrap s = .next t ∧ RaisedFrom l t .formatError 0x03) ∧
    (20 ≤ s.inLen.toNat → PaddingRight s → TagRight s →
      exec .unwrap s = .next { l with base := 20, phase := .parse })

/-- R132: PASSTHRU, alone and as the step of an input that does not begin with MAGIC. SIZE_FIELD stays. -/
def Obligations.PassthruMeaning : Prop :=
  ∀ s : State,
    let t := { s with wrapped := false, sizeMatch := false, base := 0, phase := .parse }
    exec .passthru s = .next t ∧
    (Quiet s → s.phase = .unwrap → ¬ BeginsWithMagic s → step s = .next t)

/-- R138 (which the spec marks as derived from R131 and R134 to R136): UNWRAP writes only CONT, SIZE_FIELD, BASE and STATUS
when it ends in PARSE, and CONT, SIZE_FIELD and what a raise of FormatError writes when it does not. After a successful one
the first twenty bytes of IN are MAGIC, the padding, SIZE_FIELD big-endian, and TAG. -/
def Obligations.HeaderRoundTrip : Prop :=
  ∀ s t : State, exec .unwrap s = .next t →
    t = { s with
      wrapped := t.wrapped, sizeMatch := t.sizeMatch, sizeField := t.sizeField, base := t.base
      phase := t.phase, err := t.err, output := t.output, outEra := t.outEra } ∧
    (t.phase = .parse → t.output = s.output ∧ t.outEra = s.outEra ∧ t.err = s.err) ∧
    (t.phase ≠ .parse → ∃ cause, RaisedFrom
      { s with wrapped := t.wrapped, sizeMatch := t.sizeMatch, sizeField := t.sizeField } t .formatError cause) ∧
    (BeginsWithMagic s → t.phase = .parse →
      inBytes s 0 20 =
        magicBytes s.cfg ++ [s.cfg.pad, s.cfg.pad, s.cfg.pad] ++ (leBytes 4 t.sizeField.toNat).reverse ++
          tagBytes s.cfg)

/-! ### The texture header parser -/

/-- R151 to R155 and R243: PARSE_HDR is the step of the PARSE phase on every stream, with its checks in their order, and
ends in CHECK or in ERROR. -/
def Obligations.ParseHdrMeaning : Prop :=
  ∀ s h : State, h = withHeader s →
    (Quiet s → s.phase = .parse → step s = exec .parseHdr s) ∧
    (¬ BeginsWithSignature s → ∃ t, exec .parseHdr s = .next t ∧ RaisedFrom s t .formatError 0x04) ∧
    (BeginsWithSignature s → streamLen s < 128 →
      ∃ t, exec .parseHdr s = .next t ∧ RaisedFrom s t .formatError 0x05) ∧
    (BeginsWithSignature s → 128 ≤ streamLen s →
      (h.width = 0 → ∃ t, exec .parseHdr s = .next t ∧ RaisedFrom h t .formatError 0x06) ∧
      (h.width ≠ 0 → h.height = 0 → ∃ t, exec .parseHdr s = .next t ∧ RaisedFrom h t .formatError 0x07) ∧
      (h.width ≠ 0 → h.height ≠ 0 → h.pfFlags.getLsbD 2 = false →
        ∃ t, exec .parseHdr s = .next t ∧ RaisedFrom h t .unsupportedFormatError 0x08) ∧
      (h.width ≠ 0 → h.height ≠ 0 → h.pfFlags.getLsbD 2 = true →
        h.fourcc ≠ 0x31545844#32 → h.fourcc ≠ 0x33545844#32 → h.fourcc ≠ 0x35545844#32 →
        ∃ t, exec .parseHdr s = .next t ∧ RaisedFrom h t .unsupportedFormatError 0x09) ∧
      (∀ v : Variant, h.width ≠ 0 → h.height ≠ 0 → h.pfFlags.getLsbD 2 = true →
        (v = .dxt1 ∧ h.fourcc = 0x31545844#32 ∨ v = .dxt3 ∧ h.fourcc = 0x33545844#32 ∨
          v = .dxt5 ∧ h.fourcc = 0x35545844#32) →
        ∃ t, exec .parseHdr s = .next t ∧
          t = { h with variant := v, bsize := t.bsize, bw := t.bw, bh := t.bh, nblk := t.nblk, phase := .check } ∧
          t.bsize.toNat = blockBytes v ∧
          t.bw.toNat = (h.width.toNat + 3) / 4 ∧ t.bh.toNat = (h.height.toNat + 3) / 4 ∧
          t.nblk.toNat = (h.width.toNat + 3) / 4 * ((h.height.toNat + 3) / 4)))

/-- R159 to R163: the five variant operations. -/
def Obligations.VariantOperations : Prop :=
  ∀ (s : State) (pf f : Word),
    exec (.selDxt1 pf) s = .next { s with variant := .dxt1, bsize := 8 } ∧
    exec (.selDxt3 pf) s = .next { s with variant := .dxt3, bsize := 16 } ∧
    exec (.selDxt5 pf) s = .next { s with variant := .dxt5, bsize := 16 } ∧
    (∃ t, exec (.selUnsupFourcc pf f) s = .next t ∧ RaisedFrom s t .unsupportedFormatError 0x09) ∧
    (∃ t, exec (.selUnsupNofourcc pf f) s = .next t ∧ RaisedFrom s t .unsupportedFormatError 0x08)

/-- R158 and R33: GRID counts the blocks, rounding up, and nothing wraps. -/
def Obligations.GridCounts : Prop :=
  ∀ s : State, ∃ t, exec .grid s = .next t ∧
    t = { s with bw := t.bw, bh := t.bh, nblk := t.nblk } ∧
    t.bw.toNat = (s.width.toNat + 3) / 4 ∧ t.bh.toNat = (s.height.toNat + 3) / 4 ∧
    t.nblk.toNat = t.bw.toNat * t.bh.toNat ∧
    t.bw.toNat ≤ 2 ^ 30 ∧ t.bh.toNat ≤ 2 ^ 30 ∧ t.nblk.toNat ≤ 2 ^ 60

/-- R164: TRUNC_CHK, on unbounded naturals. -/
def Obligations.TruncationCheck : Prop :=
  ∀ s : State,
    (s.inLen.toNat < s.base.toNat + 128 + s.nblk.toNat * s.bsize.toNat →
      ∃ t, exec .truncChk s = .next t ∧ RaisedFrom s t .truncatedDataError 0x0A) ∧
    (s.base.toNat + 128 + s.nblk.toNat * s.bsize.toNat ≤ s.inLen.toNat → exec .truncChk s = .next s)

/-- R165: CAP_CHK passes an image that fits OUT, and refuses one that does not by the REFUSED mark alone (the form
of the refusal is the model's, log entry 7). -/
def Obligations.CapacityCheck : Prop :=
  ∀ s : State,
    (s.cfg.outCap < s.width.toNat * s.height.toNat * 4 →
      exec .capChk s = .next { s with refused := some .outCap }) ∧
    (s.width.toNat * s.height.toNat * 4 ≤ s.cfg.outCap → exec .capChk s = .next s)

/-- R107 and R156: two inputs that agree on the signature and the five latched fields parse alike, whatever else their
headers hold. -/
def Obligations.IgnoredHeaderBytes : Prop :=
  ∀ (s : State) (other : Mem),
    (∀ j, (j < 4 ∨ 12 ≤ j ∧ j < 20 ∨ 28 ≤ j ∧ j < 32 ∨ 80 ≤ j ∧ j < 88) →
      readIn { s with input := other } (s.base.toNat + j) = readIn s (s.base.toNat + j)) →
    ∃ t, exec .parseHdr s = .next t ∧
      exec .parseHdr { s with input := other } = .next { t with input := other }

/-- R157: MIPCOUNT is read by no step. -/
def Obligations.MipCountUnread : Prop :=
  ∀ (s : State) (v : Word), Quiet s → s.phase ≠ .parse →
    step { s with mipCount := v } = andThen (step s) fun t => .next { t with mipCount := v }

/-! ### The colour-pair interpolator -/

/-- R181: EXP5 replicates the high bits of R5 or B5 into the channel of E0 or E1 that R183 gives it (the destination is the
model's, log entry 8), and is strictly increasing. -/
def Obligations.ExpandFiveBits : Prop :=
  (∀ v : BitVec 5, (e5 v).toNat = v.toNat * 8 + v.toNat / 4) ∧
  (∀ v w : BitVec 5, v.toNat < w.toNat → (e5 v).toNat < (e5 w).toNat) ∧
  (∀ (e : Endpoint) (s : State),
    (∃ t, exec (.exp5 e .red) s = .next t ∧
      t = setExpanded e { expanded e s with r := (expanded e t).r } s ∧
      (expanded e t).r.toNat = (packed e s).toNat / 2048 * 8 + (packed e s).toNat / 2048 / 4) ∧
    (∃ t, exec (.exp5 e .blue) s = .next t ∧
      t = setExpanded e { expanded e s with b := (expanded e t).b } s ∧
      (expanded e t).b.toNat = (packed e s).toNat % 32 * 8 + (packed e s).toNat % 32 / 4))

/-- R182: EXP6 replicates the high bits of G6 into the green channel of E0 or E1 (the destination is the model's, log
entry 8). -/
def Obligations.ExpandSixBits : Prop :=
  (∀ v : BitVec 6, (e6 v).toNat = v.toNat * 4 + v.toNat / 16) ∧
  (∀ (e : Endpoint) (s : State), ∃ t, exec (.exp6 e) s = .next t ∧
    t = setExpanded e { expanded e s with g := (expanded e t).g } s ∧
    (expanded e t).g.toNat = (packed e s).toNat / 32 % 64 * 4 + (packed e s).toNat / 32 % 64 / 16)

/-- R183 and R99: EXP565 expands C0 into E0 and C1 into E1, red from bits 15:11, green from 10:5, blue from 4:0. -/
def Obligations.ExpandEndpoint : Prop :=
  ∀ (e : Endpoint) (s : State), ∃ t, exec (.exp565 e) s = .next t ∧
    t = setExpanded e (expanded e t) s ∧
    (expanded e t).r.toNat = (packed e s).toNat / 2048 * 8 + (packed e s).toNat / 2048 / 4 ∧
    (expanded e t).g.toNat = (packed e s).toNat / 32 % 64 * 4 + (packed e s).toNat / 32 % 64 / 16 ∧
    (expanded e t).b.toNat = (packed e s).toNat % 32 * 8 + (packed e s).toNat % 32 / 4

/-- R184: CPAL4, when it is selected, and the palette it builds channel by channel, with truncating division; no other
state changes. -/
def Obligations.FourColourPalette : Prop :=
  (∀ (c : Config) (v : Variant) (c0 c1 : Half), v = .dxt3 ∨ v = .dxt5 ∨ v = .dxt1 ∧ c1.toNat < c0.toNat →
    decode c (.palette v) (leBytes 2 c0.toNat ++ leBytes 2 c1.toNat) = .ok .cpal4) ∧
  ∀ s : State, ∃ t, exec .cpal4 s = .next t ∧ t = { s with cpal := t.cpal, mode3 := false } ∧
    Blends (fun x _ => x) s.e0 s.e1 t.cpal[0] ∧ Blends (fun _ y => y) s.e0 s.e1 t.cpal[1] ∧
    Blends (fun x y => (2 * x + y) / 3) s.e0 s.e1 t.cpal[2] ∧
    Blends (fun x y => (x + 2 * y) / 3) s.e0 s.e1 t.cpal[3] ∧
    t.cpal[0].a = 255 ∧ t.cpal[1].a = 255 ∧ t.cpal[2].a = 255 ∧ t.cpal[3].a = 255

/-- R185: CPAL3, when it is selected, and the palette it builds channel by channel, with a truncating midpoint and
transparent black; no other state changes. -/
def Obligations.ThreeColourPalette : Prop :=
  (∀ (c : Config) (c0 c1 : Half), c0.toNat ≤ c1.toNat →
    decode c (.palette .dxt1) (leBytes 2 c0.toNat ++ leBytes 2 c1.toNat) = .ok .cpal3) ∧
  ∀ s : State, ∃ t, exec .cpal3 s = .next t ∧ t = { s with cpal := t.cpal, mode3 := true } ∧
    Blends (fun x _ => x) s.e0 s.e1 t.cpal[0] ∧ Blends (fun _ y => y) s.e0 s.e1 t.cpal[1] ∧
    Blends (fun x y => (x + y) / 2) s.e0 s.e1 t.cpal[2] ∧
    t.cpal[0].a = 255 ∧ t.cpal[1].a = 255 ∧ t.cpal[2].a = 255 ∧ t.cpal[3] = ⟨0, 0, 0, 0⟩

/-- R187: which palette is built, and MODE3 after each block operation. -/
def Obligations.ColourModeSelection : Prop :=
  (∀ (c : Config) (v : Variant) (c0 c1 : Half), v ≠ .unset →
    decode c (.palette v) (leBytes 2 c0.toNat ++ leBytes 2 c1.toNat) =
      .ok (if v = .dxt1 ∧ c0.toNat ≤ c1.toNat then .cpal3 else .cpal4)) ∧
  (∀ (s : State) (c0 c1 : Half) (cidx : Word) (aexp : Long) (a0 a1 : Byte) (aidx : BitVec 48),
    (∃ t, exec (.decDxt1 c0 c1 cidx) s = .next t ∧ t.mode3 = decide (c0.toNat ≤ c1.toNat)) ∧
    (∃ t, exec (.decDxt3 aexp c0 c1 cidx) s = .next t ∧ t.mode3 = false) ∧
    (∃ t, exec (.decDxt5 a0 a1 aidx c0 c1 cidx) s = .next t ∧ t.mode3 = false))

/-- R189 and R100: CLUT gives pixel i the palette entry that bits 2i+1:2i of CIDX name, alpha included. -/
def Obligations.ColourLookup : Prop :=
  ∀ s : State, ∃ t, exec .clut s = .next t ∧ t = { s with pix := t.pix } ∧
    ∀ i : Fin 16, t.pix[i] = s.cpal[s.cidx.toNat / 4 ^ i.val % 4]'(Nat.mod_lt _ (by decide))

/-! ### The alpha LUT expander -/

/-- R211, R101 and R216: AEXPL4 gives pixel i seventeen times nibble i of AEXP, and leaves its colour. -/
def Obligations.SharpAlpha : Prop :=
  ∀ s : State, ∃ t, exec .aexpl4 s = .next t ∧ t = { s with pix := t.pix } ∧
    ∀ i : Fin 16, t.pix[i] = { s.pix[i] with a := t.pix[i].a } ∧
      t.pix[i].a.toNat = s.aexp.toNat / 16 ^ i.val % 16 * 17

/-- R212: APAL8, when it is selected, and the palette it builds; no other state changes. -/
def Obligations.EightValueAlphaPalette : Prop :=
  (∀ (c : Config) (a0 a1 : Byte), a1.toNat < a0.toNat → decode c .alphaPalette [a0, a1] = .ok .apal8) ∧
  ∀ s : State, ∃ t, exec .apal8 s = .next t ∧ t = { s with apal := t.apal, amode6 := false } ∧
    t.apal[0] = s.a0 ∧ t.apal[1] = s.a1 ∧
    ∀ j : Fin 8, 2 ≤ j.val → t.apal[j].toNat = ((8 - j.val) * s.a0.toNat + (j.val - 1) * s.a1.toNat) / 7

/-- R213: APAL6, when it is selected, and the palette it builds; no other state changes. -/
def Obligations.SixValueAlphaPalette : Prop :=
  (∀ (c : Config) (a0 a1 : Byte), a0.toNat ≤ a1.toNat → decode c .alphaPalette [a0, a1] = .ok .apal6) ∧
  ∀ s : State, ∃ t, exec .apal6 s = .next t ∧ t = { s with apal := t.apal, amode6 := true } ∧
    t.apal[0] = s.a0 ∧ t.apal[1] = s.a1 ∧
    (∀ j : Fin 8, 2 ≤ j.val → j.val ≤ 5 →
      t.apal[j].toNat = ((6 - j.val) * s.a0.toNat + (j.val - 1) * s.a1.toNat) / 5) ∧
    t.apal[6] = 0 ∧ t.apal[7] = 255

/-- R214: which alpha palette is built, and AMODE6 after DEC_DXT5. -/
def Obligations.AlphaModeSelection : Prop :=
  (∀ (c : Config) (a0 a1 : Byte),
    decode c .alphaPalette [a0, a1] = .ok (if a0.toNat ≤ a1.toNat then .apal6 else .apal8)) ∧
  (∀ (s : State) (a0 a1 : Byte) (aidx : BitVec 48) (c0 c1 : Half) (cidx : Word),
    ∃ t, exec (.decDxt5 a0 a1 aidx c0 c1 cidx) s = .next t ∧ t.amode6 = decide (a0.toNat ≤ a1.toNat))

/-- R215, R102 and R216: ALUT gives pixel i the alpha that bits 3i+2:3i of AIDX name, and leaves its colour. -/
def Obligations.AlphaLookup : Prop :=
  ∀ s : State, ∃ t, exec .alut s = .next t ∧ t = { s with pix := t.pix } ∧
    ∀ i : Fin 16, t.pix[i] =
      { s.pix[i] with a := s.apal[s.aidx.toNat / 8 ^ i.val % 8]'(Nat.mod_lt _ (by decide)) }

/-! ### The block unpacker -/

/-- R247: an F-BLK1 is DEC_DXT1 of its fields. DEC_DXT1 is the latches, EXP565 of each endpoint, CPAL4 if C0 > C1 and CPAL3 otherwise, and CLUT; its pixels are
those of its fields, and nothing but the datapath changes. -/
def Obligations.DecodeDxt1Block : Prop :=
  (∀ (c : Config) (bs : List Byte), bs.length = 8 →
    decode c (.block .dxt1) bs = .ok (.decDxt1 (halfAt bs 0) (halfAt bs 2) (wordAt bs 4))) ∧
  ∀ (s : State) (c0 c1 : Half) (cidx : Word),
    exec (.decDxt1 c0 c1 cidx) s =
      (andThen (exec (.exp565 .e0) { s with c0 := c0, c1 := c1, cidx := cidx }) fun t =>
        andThen (exec (.exp565 .e1) t) fun u =>
          andThen (exec (if c1.toNat < c0.toNat then .cpal4 else .cpal3) u) fun v => exec .clut v) ∧
    ∃ t, exec (.decDxt1 c0 c1 cidx) s = .next t ∧ OnlyDatapath s t ∧ SameBytes s t ∧
      t.c0 = c0 ∧ t.c1 = c1 ∧ t.cidx = cidx ∧ t.a0 = s.a0 ∧ t.a1 = s.a1 ∧ t.aidx = s.aidx ∧ t.aexp = s.aexp ∧
      t.apal = s.apal ∧ t.amode6 = s.amode6 ∧
      ∀ i : Fin 16, t.pix[i] = colourOf .dxt1 c0 c1 cidx i

/-- R248: an F-BLK3 is DEC_DXT3 of its fields. DEC_DXT3 is the latches, EXP565 of each endpoint, CPAL4 always, CLUT, and AEXPL4. -/
def Obligations.DecodeDxt3Block : Prop :=
  (∀ (c : Config) (bs : List Byte), bs.length = 16 →
    decode c (.block .dxt3) bs = .ok (.decDxt3 (longAt bs 0) (halfAt bs 8) (halfAt bs 10) (wordAt bs 12))) ∧
  ∀ (s : State) (aexp : Long) (c0 c1 : Half) (cidx : Word),
    exec (.decDxt3 aexp c0 c1 cidx) s =
      (andThen (exec (.exp565 .e0) { s with aexp := aexp, c0 := c0, c1 := c1, cidx := cidx }) fun t =>
        andThen (exec (.exp565 .e1) t) fun u =>
          andThen (exec .cpal4 u) fun v => andThen (exec .clut v) fun w => exec .aexpl4 w) ∧
    ∃ t, exec (.decDxt3 aexp c0 c1 cidx) s = .next t ∧ OnlyDatapath s t ∧ SameBytes s t ∧
      t.aexp = aexp ∧ t.c0 = c0 ∧ t.c1 = c1 ∧ t.cidx = cidx ∧ t.mode3 = false ∧
      t.a0 = s.a0 ∧ t.a1 = s.a1 ∧ t.aidx = s.aidx ∧ t.apal = s.apal ∧ t.amode6 = s.amode6 ∧
      ∀ i : Fin 16, t.pix[i] =
        { colourOf .dxt3 c0 c1 cidx i with a := BitVec.ofNat 8 (aexp.toNat / 16 ^ i.val % 16 * 17) }

/-- R249: an F-BLK5 is DEC_DXT5 of its fields. DEC_DXT5 is the alpha latches, APAL8 if A0 > A1 and APAL6 otherwise, the colour latches, EXP565 of each
endpoint, CPAL4 always, CLUT, and ALUT. -/
def Obligations.DecodeDxt5Block : Prop :=
  (∀ (c : Config) (bs : List Byte), bs.length = 16 →
    decode c (.block .dxt5) bs =
      .ok (.decDxt5 (byteAt bs 0) (byteAt bs 1) (aidxAt bs 2) (halfAt bs 8) (halfAt bs 10) (wordAt bs 12))) ∧
  ∀ (s : State) (a0 a1 : Byte) (aidx : BitVec 48) (c0 c1 : Half) (cidx : Word),
    exec (.decDxt5 a0 a1 aidx c0 c1 cidx) s =
      (andThen (exec (if a1.toNat < a0.toNat then .apal8 else .apal6) { s with a0 := a0, a1 := a1, aidx := aidx })
        fun r => andThen (exec (.exp565 .e0) { r with c0 := c0, c1 := c1, cidx := cidx }) fun t =>
          andThen (exec (.exp565 .e1) t) fun u =>
            andThen (exec .cpal4 u) fun v => andThen (exec .clut v) fun w => exec .alut w) ∧
    ∃ t, exec (.decDxt5 a0 a1 aidx c0 c1 cidx) s = .next t ∧ OnlyDatapath s t ∧ SameBytes s t ∧
      t.a0 = a0 ∧ t.a1 = a1 ∧ t.aidx = aidx ∧ t.c0 = c0 ∧ t.c1 = c1 ∧ t.cidx = cidx ∧ t.mode3 = false ∧
      t.aexp = s.aexp ∧
      ∀ i : Fin 16, t.pix[i] = { colourOf .dxt5 c0 c1 cidx i with a := alphaOf a0 a1 aidx i }

/-- R250: PIXWR writes each pixel of the block that lies in the image at its address, r, g, b, a at rising addresses, and
no other byte of OUT; no other state changes. -/
def Obligations.PixelWrite : Prop :=
  ∀ s : State, s.bw ≠ 0 → s.width.toNat * s.height.toNat * 4 ≤ s.cfg.outCap →
    ∃ t, exec .pixwr s = .next t ∧ t = { s with output := t.output } ∧
      (∀ i : Fin 16,
        let x := 4 * (s.blk.toNat % s.bw.toNat) + i.val % 4
        let y := 4 * (s.blk.toNat / s.bw.toNat) + i.val / 4
        x < s.width.toNat → y < s.height.toNat → HoldsPixel t (4 * (y * s.width.toNat + x)) s.pix[i]) ∧
      (∀ a, (∀ i : Fin 16, pixelShown s i = true → a < pixelAddr s i ∨ pixelAddr s i + 4 ≤ a) →
        readOut t a = readOut s a)

/-- Where a step stops in states no run reaches (log entry 12): PIXWR with BW = 0, PIXWR of a shown pixel that does not lie
below OUT_CAP, a DECODE step whose block does not lie below IN_LEN, and a DECODE step with VARIANT = 0. -/
def Obligations.UnreachableStops : Prop :=
  ∀ s : State,
    (s.bw = 0 → exec .pixwr s = .fault .noGrid) ∧
    (∀ i : Fin 16, s.bw ≠ 0 → pixelShown s i = true → s.cfg.outCap < pixelAddr s i + 4 →
      exec .pixwr s = .fault .outBounds) ∧
    (Quiet s → s.phase = .decode →
      s.inLen.toNat < s.base.toNat + 128 + s.blk.toNat * s.bsize.toNat + s.bsize.toNat →
      step s = .fault .inBounds) ∧
    (Quiet s → s.phase = .decode → s.variant = .unset →
      s.base.toNat + 128 + s.blk.toNat * s.bsize.toNat + s.bsize.toNat ≤ s.inLen.toNat →
      step s = .fault .noVariant)

/-- R251: ADVANCE moves BLK on by one and enters DONE exactly when it reaches NBLK; no other state changes. -/
def Obligations.AdvanceCursor : Prop :=
  ∀ s : State, s.blk.toNat < s.nblk.toNat →
    ∃ t, exec .advance s = .next t ∧ t = { s with blk := t.blk, phase := t.phase } ∧
      t.blk.toNat = s.blk.toNat + 1 ∧ t.blk.toNat ≤ s.nblk.toNat ∧
      (t.blk = s.nblk → t.phase = .done) ∧ (t.blk ≠ s.nblk → t.phase = s.phase)

/-- R253 (which the spec marks as derived): each pixel of the image lies in exactly one block of the grid, and is exactly one of its sixteen. -/
def Obligations.PixelOwnership : Prop :=
  ∀ s : State, GridReady s → ∀ x y : Nat, x < s.width.toNat → y < s.height.toNat →
    blockOf s x y < s.nblk.toNat ∧
    ∀ (k : Nat) (i : Fin 16), k < s.nblk.toNat →
      (pixelX { s with blk := BitVec.ofNat 64 k } i = x ∧ pixelY { s with blk := BitVec.ofNat 64 k } i = y ↔
        k = blockOf s x y ∧ i = slotInBlock x y)

/-- Every operation on the datapath alone completes and leaves the parameters, the host-visible registers, the REFUSED
mark and every byte of IN and OUT as they were. -/
def Obligations.DatapathOperationsFrame : Prop :=
  ∀ (s : State) (i : Instr),
    (i ∈ [Instr.cpal4, .cpal3, .clut, .aexpl4, .apal8, .apal6, .alut] ∨
      ∃ (e : Endpoint) (ch : Chan5), i = .exp5 e ch ∨ i = .exp6 e ∨ i = .exp565 e) →
    ∃ t, exec i s = .next t ∧ OnlyDatapath s t ∧ SameBytes s t

/-! ### Errors, refusals, the host and reset -/

/-- R271 to R274 and R77: a step that enters ERROR has raised one of the listed errors; IN and IN_LEN are as they were, and
every byte of OUT is a free value (log entry 3). -/
def Obligations.ErrorsAreRaises : Prop :=
  ∀ s t : State, Quiet s → s.phase ≠ .error → step s = .next t → t.phase = .error →
    t.err.kind ≠ .none ∧ listedErr t.err = true ∧ t.phase.busy = false ∧
      t.input = s.input ∧ t.inLen = s.inLen ∧ (∀ a, readIn t a = readIn s a) ∧
      (∀ a, readOut t a = Config.freeOut (s.outEra + 1) a)

/-- R280: once set, the REFUSED mark stays through every step but a reset. -/
def Obligations.RefusedMarkStays : Prop :=
  ∀ s t : State, s.refused ≠ none → (∀ rest, s.inbox ≠ .reset :: rest) → step s = .next t → t.refused ≠ none

/-- R280 and R82, as the model stops on them (log entries 7 and 10): the step after an OUT_CAP refusal is refused by the
reason's name. A step of an instance that shares its OUT sets the REFUSED mark, and once it is set is refused by the
reason's name; a reset alone still takes place. -/
def Obligations.UnmeantSituations : Prop :=
  (∀ s : State, Quiet s → s.phase = .check → s.refused = some .outCap →
    step s = .refused (.unmeant .outCap)) ∧
  (∀ s : State, s.cfg.outShared = true → (∀ rest, s.inbox ≠ .reset :: rest) → s.refused ≠ some .sharedOut →
    step s = .next { s with refused := some .sharedOut }) ∧
  (∀ s : State, s.cfg.outShared = true → (∀ rest, s.inbox ≠ .reset :: rest) → s.refused = some .sharedOut →
    step s = .refused (.unmeant .sharedOut)) ∧
  (∀ (s : State) (rest : List HostMove), s.cfg.outShared = true → s.inbox = .reset :: rest →
    step s = hostMove .reset { s with inbox := rest })

/-- R302 and R304: a host write to IN while not BUSY lands in the written addresses and nowhere else; while BUSY the host
has no such move, and addresses from IN_MAX do not exist, which the model says by faults (log entries 13 and 14). -/
def Obligations.HostWritesInput : Prop :=
  ∀ (s : State) (a : Nat) (bytes : List Byte),
    (s.phase.busy = true → hostMove (.writeIn a bytes) s = .fault .inHazard) ∧
    (s.phase.busy = false → s.cfg.inMax.toNat < a + bytes.length →
      hostMove (.writeIn a bytes) s = .fault .inAddress) ∧
    (s.phase.busy = false → a + bytes.length ≤ s.cfg.inMax.toNat →
      ∃ t, hostMove (.writeIn a bytes) s = .next t ∧ t = { s with input := t.input } ∧
        (∀ j (h : j < bytes.length), readIn t (a + j) = bytes[j]) ∧
        (∀ x, x < a ∨ a + bytes.length ≤ x → readIn t x = readIn s x))

/-- R305 and R303: a host read of OUT while BUSY returns a free value, a fresh one each time (log entry 4); otherwise the
byte of OUT. Nothing of DXTDEC changes. An address from OUT_CAP does not exist (R61; the fault is log entry 14). -/
def Obligations.HostReadsOutput : Prop :=
  ∀ (s : State) (a : Nat),
    (s.cfg.outCap ≤ a → hostMove (.readOut a) s = .fault .outAddress) ∧
    (a < s.cfg.outCap → s.phase.busy = true → hostMove (.readOut a) s =
      .next { s with hostData := (Config.freeBusy s.draws).setWidth 64, draws := s.draws + 1 }) ∧
    (a < s.cfg.outCap → s.phase.busy = false →
      hostMove (.readOut a) s = .next { s with hostData := (readOut s a).setWidth 64 })

/-- R300 and R49: a reset from any state. IDLE, every host-visible register 0, the mark clear, the parameters kept, and IN
and OUT unspecified, which the model gives as free values (log entries 2 and 3). -/
def Obligations.ResetMove : Prop :=
  ∀ s : State, ∃ t, hostMove .reset s = .next t ∧
    t.phase = .idle ∧ (∀ n, readReg t n = 0) ∧ t.refused = none ∧ t.cfg = s.cfg ∧
    ∀ a, readIn t a = Config.freeIn (s.inEra + 1) a ∧ readOut t a = Config.freeOut (s.outEra + 1) a

/-- R49: the state after reset, as the host reads it. That IN and OUT list nothing is the model's form of 'unspecified'
(log entries 2 and 3). -/
def Obligations.ResetState : Prop :=
  State.reset.phase = .idle ∧ (∀ n, readReg State.reset n = 0) ∧ State.reset.refused = none ∧
    ∀ a, memGet State.reset.input a = none ∧ memGet State.reset.output a = none

/-! ### The whole machine -/

/-- The invariant holds after reset. -/
def Obligations.ResetMeetsInvariant : Prop := Inv State.reset

/-- Every step, of the sequencer or of the host, keeps the invariant. -/
def Obligations.StepKeepsInvariant : Prop :=
  ∀ s t : State, Inv s → step s = .next t → Inv t

/-- In a run, the sequencer's step always has a next state, but where an operation was refused for OUT_CAP: no block read
and no pixel write is out of bounds, and no block is undecodable (R63, R250, R276). -/
def Obligations.SequencerNeverFaults : Prop :=
  ∀ s : State, Inv s → Quiet s → s.refused ≠ some .outCap → ∃ t, step s = .next t

/-- R20: the parameters are not state; no step changes them. -/
def Obligations.ParametersAreFixed : Prop :=
  ∀ s t : State, step s = .next t → t.cfg = s.cfg

/-- R60, R61 and R80: no sequencer step writes IN or IN_LEN, or lets the host's pending moves or its data change. -/
def Obligations.SequencerKeepsInput : Prop :=
  ∀ s t : State, Quiet s → step s = .next t →
    t.input = s.input ∧ t.inEra = s.inEra ∧ t.inLen = s.inLen ∧ t.inbox = [] ∧ t.hostData = s.hostData ∧
      t.draws = s.draws

/-- R254 and R46 (which the spec marks as derived): the result of a sequencer step is a function of the parameters, the registers and the input below IN_LEN.
Two states that share those, whatever their datapath, their OUT and their IN at and above IN_LEN, step alike, and a byte
of OUT the step writes is the same byte in both. -/
def Obligations.ResultDependsOnJobAlone : Prop :=
  ∀ s s' : State, SameJob s s' → ∀ t, step s = .next t →
    ∃ t', step s' = .next t' ∧ SameJob t t' ∧
      (t.phase ≠ .error → ∀ a, readOut t' a = readOut t a ∨ readOut t a = readOut s a ∧ readOut t' a = readOut s' a)

/-- R256 (which the spec marks as derived): every operation ends. From UNWRAP, one that reaches DONE takes exactly 3 + NBLK sequencer steps and one that
reaches ERROR takes 1, 2 or 3, and it is BUSY until then; one refused for OUT_CAP takes 3 (log entry 7). -/
def Obligations.OperationEnds : Prop :=
  ∀ s : State, Inv s → Quiet s → s.phase = .unwrap →
    ∃ n t, Host.Core.run Sys2Proof.core n s = .next t ∧
      (t.phase = .done ∧ n = 3 + t.nblk.toNat ∨ t.phase = .error ∧ 1 ≤ n ∧ n ≤ 3 ∨
        t.refused = some .outCap ∧ n = 3) ∧
      ∀ m, m < n → ∃ u : State, Host.Core.run Sys2Proof.core m s = .next u ∧ u.phase.busy = true

/-- The image of a run (R70, R74, R245 to R253): from the entry to DECODE, NBLK steps lead to DONE, every pixel of OUT is
then the pixel its own block encodes, and no byte of OUT at or above WIDTH*HEIGHT*4 has changed. -/
def Obligations.OutputIsDecodedImage : Prop :=
  ∀ s : State, Inv s → Quiet s → s.phase = .decode → s.blk = 0 →
    ∃ t : State, Host.Core.run Sys2Proof.core s.nblk.toNat s = .next t ∧ t.phase = .done ∧
      t.width = s.width ∧ t.height = s.height ∧
      (∀ x y, x < s.width.toNat → y < s.height.toNat →
        HoldsPixel t (4 * (y * s.width.toNat + x)) (imagePixel s x y)) ∧
      (∀ a, s.width.toNat * s.height.toNat * 4 ≤ a → readOut t a = readOut s a)
end

