-- ==== Sys2Proof/Laws/State.lean ====
section
/-! SUPPORT. One lemma for each field of State under each named update, so that no later proof unfolds a record
update. -/

namespace Sys2Proof.Machine

/-! OUT becomes unspecified (R77). -/

@[simp] theorem loseOut_cfg (s : State) : (loseOut s).cfg = s.cfg := rfl
@[simp] theorem loseOut_phase (s : State) : (loseOut s).phase = s.phase := rfl
@[simp] theorem loseOut_err (s : State) : (loseOut s).err = s.err := rfl
@[simp] theorem loseOut_inLen (s : State) : (loseOut s).inLen = s.inLen := rfl
@[simp] theorem loseOut_wrapped (s : State) : (loseOut s).wrapped = s.wrapped := rfl
@[simp] theorem loseOut_sizeMatch (s : State) : (loseOut s).sizeMatch = s.sizeMatch := rfl
@[simp] theorem loseOut_sizeField (s : State) : (loseOut s).sizeField = s.sizeField := rfl
@[simp] theorem loseOut_base (s : State) : (loseOut s).base = s.base := rfl
@[simp] theorem loseOut_width (s : State) : (loseOut s).width = s.width := rfl
@[simp] theorem loseOut_height (s : State) : (loseOut s).height = s.height := rfl
@[simp] theorem loseOut_mipCount (s : State) : (loseOut s).mipCount = s.mipCount := rfl
@[simp] theorem loseOut_pfFlags (s : State) : (loseOut s).pfFlags = s.pfFlags := rfl
@[simp] theorem loseOut_fourcc (s : State) : (loseOut s).fourcc = s.fourcc := rfl
@[simp] theorem loseOut_variant (s : State) : (loseOut s).variant = s.variant := rfl
@[simp] theorem loseOut_bsize (s : State) : (loseOut s).bsize = s.bsize := rfl
@[simp] theorem loseOut_bw (s : State) : (loseOut s).bw = s.bw := rfl
@[simp] theorem loseOut_bh (s : State) : (loseOut s).bh = s.bh := rfl
@[simp] theorem loseOut_nblk (s : State) : (loseOut s).nblk = s.nblk := rfl
@[simp] theorem loseOut_blk (s : State) : (loseOut s).blk = s.blk := rfl
@[simp] theorem loseOut_c0 (s : State) : (loseOut s).c0 = s.c0 := rfl
@[simp] theorem loseOut_c1 (s : State) : (loseOut s).c1 = s.c1 := rfl
@[simp] theorem loseOut_e0 (s : State) : (loseOut s).e0 = s.e0 := rfl
@[simp] theorem loseOut_e1 (s : State) : (loseOut s).e1 = s.e1 := rfl
@[simp] theorem loseOut_cpal (s : State) : (loseOut s).cpal = s.cpal := rfl
@[simp] theorem loseOut_cidx (s : State) : (loseOut s).cidx = s.cidx := rfl
@[simp] theorem loseOut_mode3 (s : State) : (loseOut s).mode3 = s.mode3 := rfl
@[simp] theorem loseOut_a0 (s : State) : (loseOut s).a0 = s.a0 := rfl
@[simp] theorem loseOut_a1 (s : State) : (loseOut s).a1 = s.a1 := rfl
@[simp] theorem loseOut_aidx (s : State) : (loseOut s).aidx = s.aidx := rfl
@[simp] theorem loseOut_aexp (s : State) : (loseOut s).aexp = s.aexp := rfl
@[simp] theorem loseOut_apal (s : State) : (loseOut s).apal = s.apal := rfl
@[simp] theorem loseOut_amode6 (s : State) : (loseOut s).amode6 = s.amode6 := rfl
@[simp] theorem loseOut_pix (s : State) : (loseOut s).pix = s.pix := rfl
@[simp] theorem loseOut_input (s : State) : (loseOut s).input = s.input := rfl
@[simp] theorem loseOut_output (s : State) : (loseOut s).output = [] := rfl
@[simp] theorem loseOut_refused (s : State) : (loseOut s).refused = s.refused := rfl
@[simp] theorem loseOut_inEra (s : State) : (loseOut s).inEra = s.inEra := rfl
@[simp] theorem loseOut_outEra (s : State) : (loseOut s).outEra = s.outEra + 1 := rfl
@[simp] theorem loseOut_draws (s : State) : (loseOut s).draws = s.draws := rfl
@[simp] theorem loseOut_inbox (s : State) : (loseOut s).inbox = s.inbox := rfl
@[simp] theorem loseOut_hostData (s : State) : (loseOut s).hostData = s.hostData := rfl

/-! A raise (R271). -/

@[simp] theorem raise_cfg (k : ErrKind) (cause : Byte) (s : State) : (raise k cause s).cfg = s.cfg := rfl
@[simp] theorem raise_phase (k : ErrKind) (cause : Byte) (s : State) : (raise k cause s).phase = .error := rfl
@[simp] theorem raise_err (k : ErrKind) (cause : Byte) (s : State) : (raise k cause s).err = ⟨k, cause⟩ := rfl
@[simp] theorem raise_inLen (k : ErrKind) (cause : Byte) (s : State) : (raise k cause s).inLen = s.inLen := rfl
@[simp] theorem raise_wrapped (k : ErrKind) (cause : Byte) (s : State) : (raise k cause s).wrapped = s.wrapped := rfl
@[simp] theorem raise_sizeMatch (k : ErrKind) (cause : Byte) (s : State) :
    (raise k cause s).sizeMatch = s.sizeMatch := rfl
@[simp] theorem raise_sizeField (k : ErrKind) (cause : Byte) (s : State) :
    (raise k cause s).sizeField = s.sizeField := rfl
@[simp] theorem raise_base (k : ErrKind) (cause : Byte) (s : State) : (raise k cause s).base = s.base := rfl
@[simp] theorem raise_width (k : ErrKind) (cause : Byte) (s : State) : (raise k cause s).width = s.width := rfl
@[simp] theorem raise_height (k : ErrKind) (cause : Byte) (s : State) : (raise k cause s).height = s.height := rfl
@[simp] theorem raise_mipCount (k : ErrKind) (cause : Byte) (s : State) : (raise k cause s).mipCount = s.mipCount := rfl
@[simp] theorem raise_pfFlags (k : ErrKind) (cause : Byte) (s : State) : (raise k cause s).pfFlags = s.pfFlags := rfl
@[simp] theorem raise_fourcc (k : ErrKind) (cause : Byte) (s : State) : (raise k cause s).fourcc = s.fourcc := rfl
@[simp] theorem raise_variant (k : ErrKind) (cause : Byte) (s : State) : (raise k cause s).variant = s.variant := rfl
@[simp] theorem raise_bsize (k : ErrKind) (cause : Byte) (s : State) : (raise k cause s).bsize = s.bsize := rfl
@[simp] theorem raise_bw (k : ErrKind) (cause : Byte) (s : State) : (raise k cause s).bw = s.bw := rfl
@[simp] theorem raise_bh (k : ErrKind) (cause : Byte) (s : State) : (raise k cause s).bh = s.bh := rfl
@[simp] theorem raise_nblk (k : ErrKind) (cause : Byte) (s : State) : (raise k cause s).nblk = s.nblk := rfl
@[simp] theorem raise_blk (k : ErrKind) (cause : Byte) (s : State) : (raise k cause s).blk = s.blk := rfl
@[simp] theorem raise_c0 (k : ErrKind) (cause : Byte) (s : State) : (raise k cause s).c0 = s.c0 := rfl
@[simp] theorem raise_c1 (k : ErrKind) (cause : Byte) (s : State) : (raise k cause s).c1 = s.c1 := rfl
@[simp] theorem raise_e0 (k : ErrKind) (cause : Byte) (s : State) : (raise k cause s).e0 = s.e0 := rfl
@[simp] theorem raise_e1 (k : ErrKind) (cause : Byte) (s : State) : (raise k cause s).e1 = s.e1 := rfl
@[simp] theorem raise_cpal (k : ErrKind) (cause : Byte) (s : State) : (raise k cause s).cpal = s.cpal := rfl
@[simp] theorem raise_cidx (k : ErrKind) (cause : Byte) (s : State) : (raise k cause s).cidx = s.cidx := rfl
@[simp] theorem raise_mode3 (k : ErrKind) (cause : Byte) (s : State) : (raise k cause s).mode3 = s.mode3 := rfl
@[simp] theorem raise_a0 (k : ErrKind) (cause : Byte) (s : State) : (raise k cause s).a0 = s.a0 := rfl
@[simp] theorem raise_a1 (k : ErrKind) (cause : Byte) (s : State) : (raise k cause s).a1 = s.a1 := rfl
@[simp] theorem raise_aidx (k : ErrKind) (cause : Byte) (s : State) : (raise k cause s).aidx = s.aidx := rfl
@[simp] theorem raise_aexp (k : ErrKind) (cause : Byte) (s : State) : (raise k cause s).aexp = s.aexp := rfl
@[simp] theorem raise_apal (k : ErrKind) (cause : Byte) (s : State) : (raise k cause s).apal = s.apal := rfl
@[simp] theorem raise_amode6 (k : ErrKind) (cause : Byte) (s : State) : (raise k cause s).amode6 = s.amode6 := rfl
@[simp] theorem raise_pix (k : ErrKind) (cause : Byte) (s : State) : (raise k cause s).pix = s.pix := rfl
@[simp] theorem raise_input (k : ErrKind) (cause : Byte) (s : State) : (raise k cause s).input = s.input := rfl
@[simp] theorem raise_output (k : ErrKind) (cause : Byte) (s : State) : (raise k cause s).output = [] := rfl
@[simp] theorem raise_refused (k : ErrKind) (cause : Byte) (s : State) : (raise k cause s).refused = s.refused := rfl
@[simp] theorem raise_inEra (k : ErrKind) (cause : Byte) (s : State) : (raise k cause s).inEra = s.inEra := rfl
@[simp] theorem raise_outEra (k : ErrKind) (cause : Byte) (s : State) : (raise k cause s).outEra = s.outEra + 1 := rfl
@[simp] theorem raise_draws (k : ErrKind) (cause : Byte) (s : State) : (raise k cause s).draws = s.draws := rfl
@[simp] theorem raise_inbox (k : ErrKind) (cause : Byte) (s : State) : (raise k cause s).inbox = s.inbox := rfl
@[simp] theorem raise_hostData (k : ErrKind) (cause : Byte) (s : State) : (raise k cause s).hostData = s.hostData := rfl

/-! A refusal (R280). -/

@[simp] theorem refuse_cfg (r : RefuseReason) (s : State) : (refuse r s).cfg = s.cfg := rfl
@[simp] theorem refuse_phase (r : RefuseReason) (s : State) : (refuse r s).phase = s.phase := rfl
@[simp] theorem refuse_err (r : RefuseReason) (s : State) : (refuse r s).err = s.err := rfl
@[simp] theorem refuse_inLen (r : RefuseReason) (s : State) : (refuse r s).inLen = s.inLen := rfl
@[simp] theorem refuse_wrapped (r : RefuseReason) (s : State) : (refuse r s).wrapped = s.wrapped := rfl
@[simp] theorem refuse_sizeMatch (r : RefuseReason) (s : State) : (refuse r s).sizeMatch = s.sizeMatch := rfl
@[simp] theorem refuse_sizeField (r : RefuseReason) (s : State) : (refuse r s).sizeField = s.sizeField := rfl
@[simp] theorem refuse_base (r : RefuseReason) (s : State) : (refuse r s).base = s.base := rfl
@[simp] theorem refuse_width (r : RefuseReason) (s : State) : (refuse r s).width = s.width := rfl
@[simp] theorem refuse_height (r : RefuseReason) (s : State) : (refuse r s).height = s.height := rfl
@[simp] theorem refuse_mipCount (r : RefuseReason) (s : State) : (refuse r s).mipCount = s.mipCount := rfl
@[simp] theorem refuse_pfFlags (r : RefuseReason) (s : State) : (refuse r s).pfFlags = s.pfFlags := rfl
@[simp] theorem refuse_fourcc (r : RefuseReason) (s : State) : (refuse r s).fourcc = s.fourcc := rfl
@[simp] theorem refuse_variant (r : RefuseReason) (s : State) : (refuse r s).variant = s.variant := rfl
@[simp] theorem refuse_bsize (r : RefuseReason) (s : State) : (refuse r s).bsize = s.bsize := rfl
@[simp] theorem refuse_bw (r : RefuseReason) (s : State) : (refuse r s).bw = s.bw := rfl
@[simp] theorem refuse_bh (r : RefuseReason) (s : State) : (refuse r s).bh = s.bh := rfl
@[simp] theorem refuse_nblk (r : RefuseReason) (s : State) : (refuse r s).nblk = s.nblk := rfl
@[simp] theorem refuse_blk (r : RefuseReason) (s : State) : (refuse r s).blk = s.blk := rfl
@[simp] theorem refuse_c0 (r : RefuseReason) (s : State) : (refuse r s).c0 = s.c0 := rfl
@[simp] theorem refuse_c1 (r : RefuseReason) (s : State) : (refuse r s).c1 = s.c1 := rfl
@[simp] theorem refuse_e0 (r : RefuseReason) (s : State) : (refuse r s).e0 = s.e0 := rfl
@[simp] theorem refuse_e1 (r : RefuseReason) (s : State) : (refuse r s).e1 = s.e1 := rfl
@[simp] theorem refuse_cpal (r : RefuseReason) (s : State) : (refuse r s).cpal = s.cpal := rfl
@[simp] theorem refuse_cidx (r : RefuseReason) (s : State) : (refuse r s).cidx = s.cidx := rfl
@[simp] theorem refuse_mode3 (r : RefuseReason) (s : State) : (refuse r s).mode3 = s.mode3 := rfl
@[simp] theorem refuse_a0 (r : RefuseReason) (s : State) : (refuse r s).a0 = s.a0 := rfl
@[simp] theorem refuse_a1 (r : RefuseReason) (s : State) : (refuse r s).a1 = s.a1 := rfl
@[simp] theorem refuse_aidx (r : RefuseReason) (s : State) : (refuse r s).aidx = s.aidx := rfl
@[simp] theorem refuse_aexp (r : RefuseReason) (s : State) : (refuse r s).aexp = s.aexp := rfl
@[simp] theorem refuse_apal (r : RefuseReason) (s : State) : (refuse r s).apal = s.apal := rfl
@[simp] theorem refuse_amode6 (r : RefuseReason) (s : State) : (refuse r s).amode6 = s.amode6 := rfl
@[simp] theorem refuse_pix (r : RefuseReason) (s : State) : (refuse r s).pix = s.pix := rfl
@[simp] theorem refuse_input (r : RefuseReason) (s : State) : (refuse r s).input = s.input := rfl
@[simp] theorem refuse_output (r : RefuseReason) (s : State) : (refuse r s).output = s.output := rfl
@[simp] theorem refuse_refused (r : RefuseReason) (s : State) : (refuse r s).refused = some r := rfl
@[simp] theorem refuse_inEra (r : RefuseReason) (s : State) : (refuse r s).inEra = s.inEra := rfl
@[simp] theorem refuse_outEra (r : RefuseReason) (s : State) : (refuse r s).outEra = s.outEra := rfl
@[simp] theorem refuse_draws (r : RefuseReason) (s : State) : (refuse r s).draws = s.draws := rfl
@[simp] theorem refuse_inbox (r : RefuseReason) (s : State) : (refuse r s).inbox = s.inbox := rfl
@[simp] theorem refuse_hostData (r : RefuseReason) (s : State) : (refuse r s).hostData = s.hostData := rfl

/-! An accepted START (R50). -/

@[simp] theorem clearForStart_cfg (s : State) : (clearForStart s).cfg = s.cfg := rfl
@[simp] theorem clearForStart_phase (s : State) : (clearForStart s).phase = .unwrap := rfl
@[simp] theorem clearForStart_err (s : State) : (clearForStart s).err = ⟨.none, 0⟩ := rfl
@[simp] theorem clearForStart_inLen (s : State) : (clearForStart s).inLen = s.inLen := rfl
@[simp] theorem clearForStart_wrapped (s : State) : (clearForStart s).wrapped = false := rfl
@[simp] theorem clearForStart_sizeMatch (s : State) : (clearForStart s).sizeMatch = false := rfl
@[simp] theorem clearForStart_sizeField (s : State) : (clearForStart s).sizeField = 0 := rfl
@[simp] theorem clearForStart_base (s : State) : (clearForStart s).base = 0 := rfl
@[simp] theorem clearForStart_width (s : State) : (clearForStart s).width = 0 := rfl
@[simp] theorem clearForStart_height (s : State) : (clearForStart s).height = 0 := rfl
@[simp] theorem clearForStart_mipCount (s : State) : (clearForStart s).mipCount = 0 := rfl
@[simp] theorem clearForStart_pfFlags (s : State) : (clearForStart s).pfFlags = 0 := rfl
@[simp] theorem clearForStart_fourcc (s : State) : (clearForStart s).fourcc = 0 := rfl
@[simp] theorem clearForStart_variant (s : State) : (clearForStart s).variant = .unset := rfl
@[simp] theorem clearForStart_bsize (s : State) : (clearForStart s).bsize = 0 := rfl
@[simp] theorem clearForStart_bw (s : State) : (clearForStart s).bw = 0 := rfl
@[simp] theorem clearForStart_bh (s : State) : (clearForStart s).bh = 0 := rfl
@[simp] theorem clearForStart_nblk (s : State) : (clearForStart s).nblk = 0 := rfl
@[simp] theorem clearForStart_blk (s : State) : (clearForStart s).blk = 0 := rfl
@[simp] theorem clearForStart_c0 (s : State) : (clearForStart s).c0 = s.c0 := rfl
@[simp] theorem clearForStart_c1 (s : State) : (clearForStart s).c1 = s.c1 := rfl
@[simp] theorem clearForStart_e0 (s : State) : (clearForStart s).e0 = s.e0 := rfl
@[simp] theorem clearForStart_e1 (s : State) : (clearForStart s).e1 = s.e1 := rfl
@[simp] theorem clearForStart_cpal (s : State) : (clearForStart s).cpal = s.cpal := rfl
@[simp] theorem clearForStart_cidx (s : State) : (clearForStart s).cidx = s.cidx := rfl
@[simp] theorem clearForStart_mode3 (s : State) : (clearForStart s).mode3 = s.mode3 := rfl
@[simp] theorem clearForStart_a0 (s : State) : (clearForStart s).a0 = s.a0 := rfl
@[simp] theorem clearForStart_a1 (s : State) : (clearForStart s).a1 = s.a1 := rfl
@[simp] theorem clearForStart_aidx (s : State) : (clearForStart s).aidx = s.aidx := rfl
@[simp] theorem clearForStart_aexp (s : State) : (clearForStart s).aexp = s.aexp := rfl
@[simp] theorem clearForStart_apal (s : State) : (clearForStart s).apal = s.apal := rfl
@[simp] theorem clearForStart_amode6 (s : State) : (clearForStart s).amode6 = s.amode6 := rfl
@[simp] theorem clearForStart_pix (s : State) : (clearForStart s).pix = s.pix := rfl
@[simp] theorem clearForStart_input (s : State) : (clearForStart s).input = s.input := rfl
@[simp] theorem clearForStart_output (s : State) : (clearForStart s).output = s.output := rfl
@[simp] theorem clearForStart_refused (s : State) : (clearForStart s).refused = s.refused := rfl
@[simp] theorem clearForStart_inEra (s : State) : (clearForStart s).inEra = s.inEra := rfl
@[simp] theorem clearForStart_outEra (s : State) : (clearForStart s).outEra = s.outEra := rfl
@[simp] theorem clearForStart_draws (s : State) : (clearForStart s).draws = s.draws := rfl
@[simp] theorem clearForStart_inbox (s : State) : (clearForStart s).inbox = s.inbox := rfl
@[simp] theorem clearForStart_hostData (s : State) : (clearForStart s).hostData = s.hostData := rfl

/-! The latch of the size field (R136). -/

@[simp] theorem latchSize_cfg (s : State) : (latchSize s).cfg = s.cfg := by simp only [latchSize]
@[simp] theorem latchSize_phase (s : State) : (latchSize s).phase = s.phase := by simp only [latchSize]
@[simp] theorem latchSize_err (s : State) : (latchSize s).err = s.err := by simp only [latchSize]
@[simp] theorem latchSize_inLen (s : State) : (latchSize s).inLen = s.inLen := by simp only [latchSize]
@[simp] theorem latchSize_wrapped (s : State) : (latchSize s).wrapped = s.wrapped := by simp only [latchSize]
@[simp] theorem latchSize_sizeMatch (s : State) :
    (latchSize s).sizeMatch = sizeMatches (BitVec.ofNat 32 (be (inBytes s 12 4))) s.inLen := by simp only [latchSize]
@[simp] theorem latchSize_sizeField (s : State) :
    (latchSize s).sizeField = BitVec.ofNat 32 (be (inBytes s 12 4)) := by simp only [latchSize]
@[simp] theorem latchSize_base (s : State) : (latchSize s).base = s.base := by simp only [latchSize]
@[simp] theorem latchSize_width (s : State) : (latchSize s).width = s.width := by simp only [latchSize]
@[simp] theorem latchSize_height (s : State) : (latchSize s).height = s.height := by simp only [latchSize]
@[simp] theorem latchSize_mipCount (s : State) : (latchSize s).mipCount = s.mipCount := by simp only [latchSize]
@[simp] theorem latchSize_pfFlags (s : State) : (latchSize s).pfFlags = s.pfFlags := by simp only [latchSize]
@[simp] theorem latchSize_fourcc (s : State) : (latchSize s).fourcc = s.fourcc := by simp only [latchSize]
@[simp] theorem latchSize_variant (s : State) : (latchSize s).variant = s.variant := by simp only [latchSize]
@[simp] theorem latchSize_bsize (s : State) : (latchSize s).bsize = s.bsize := by simp only [latchSize]
@[simp] theorem latchSize_bw (s : State) : (latchSize s).bw = s.bw := by simp only [latchSize]
@[simp] theorem latchSize_bh (s : State) : (latchSize s).bh = s.bh := by simp only [latchSize]
@[simp] theorem latchSize_nblk (s : State) : (latchSize s).nblk = s.nblk := by simp only [latchSize]
@[simp] theorem latchSize_blk (s : State) : (latchSize s).blk = s.blk := by simp only [latchSize]
@[simp] theorem latchSize_c0 (s : State) : (latchSize s).c0 = s.c0 := by simp only [latchSize]
@[simp] theorem latchSize_c1 (s : State) : (latchSize s).c1 = s.c1 := by simp only [latchSize]
@[simp] theorem latchSize_e0 (s : State) : (latchSize s).e0 = s.e0 := by simp only [latchSize]
@[simp] theorem latchSize_e1 (s : State) : (latchSize s).e1 = s.e1 := by simp only [latchSize]
@[simp] theorem latchSize_cpal (s : State) : (latchSize s).cpal = s.cpal := by simp only [latchSize]
@[simp] theorem latchSize_cidx (s : State) : (latchSize s).cidx = s.cidx := by simp only [latchSize]
@[simp] theorem latchSize_mode3 (s : State) : (latchSize s).mode3 = s.mode3 := by simp only [latchSize]
@[simp] theorem latchSize_a0 (s : State) : (latchSize s).a0 = s.a0 := by simp only [latchSize]
@[simp] theorem latchSize_a1 (s : State) : (latchSize s).a1 = s.a1 := by simp only [latchSize]
@[simp] theorem latchSize_aidx (s : State) : (latchSize s).aidx = s.aidx := by simp only [latchSize]
@[simp] theorem latchSize_aexp (s : State) : (latchSize s).aexp = s.aexp := by simp only [latchSize]
@[simp] theorem latchSize_apal (s : State) : (latchSize s).apal = s.apal := by simp only [latchSize]
@[simp] theorem latchSize_amode6 (s : State) : (latchSize s).amode6 = s.amode6 := by simp only [latchSize]
@[simp] theorem latchSize_pix (s : State) : (latchSize s).pix = s.pix := by simp only [latchSize]
@[simp] theorem latchSize_input (s : State) : (latchSize s).input = s.input := by simp only [latchSize]
@[simp] theorem latchSize_output (s : State) : (latchSize s).output = s.output := by simp only [latchSize]
@[simp] theorem latchSize_refused (s : State) : (latchSize s).refused = s.refused := by simp only [latchSize]
@[simp] theorem latchSize_inEra (s : State) : (latchSize s).inEra = s.inEra := by simp only [latchSize]
@[simp] theorem latchSize_outEra (s : State) : (latchSize s).outEra = s.outEra := by simp only [latchSize]
@[simp] theorem latchSize_draws (s : State) : (latchSize s).draws = s.draws := by simp only [latchSize]
@[simp] theorem latchSize_inbox (s : State) : (latchSize s).inbox = s.inbox := by simp only [latchSize]
@[simp] theorem latchSize_hostData (s : State) : (latchSize s).hostData = s.hostData := by simp only [latchSize]

/-! The field latch (R154). -/

@[simp] theorem latchHeader_cfg (s : State) : (latchHeader s).cfg = s.cfg := rfl
@[simp] theorem latchHeader_phase (s : State) : (latchHeader s).phase = s.phase := rfl
@[simp] theorem latchHeader_err (s : State) : (latchHeader s).err = s.err := rfl
@[simp] theorem latchHeader_inLen (s : State) : (latchHeader s).inLen = s.inLen := rfl
@[simp] theorem latchHeader_wrapped (s : State) : (latchHeader s).wrapped = s.wrapped := rfl
@[simp] theorem latchHeader_sizeMatch (s : State) : (latchHeader s).sizeMatch = s.sizeMatch := rfl
@[simp] theorem latchHeader_sizeField (s : State) : (latchHeader s).sizeField = s.sizeField := rfl
@[simp] theorem latchHeader_base (s : State) : (latchHeader s).base = s.base := rfl
@[simp] theorem latchHeader_width (s : State) : (latchHeader s).width = wordAt (inBytes s s.base.toNat texLen) 16 := rfl
@[simp] theorem latchHeader_height (s : State) :
    (latchHeader s).height = wordAt (inBytes s s.base.toNat texLen) 12 := rfl
@[simp] theorem latchHeader_mipCount (s : State) :
    (latchHeader s).mipCount = wordAt (inBytes s s.base.toNat texLen) 28 := rfl
@[simp] theorem latchHeader_pfFlags (s : State) :
    (latchHeader s).pfFlags = wordAt (inBytes s s.base.toNat texLen) 80 := rfl
@[simp] theorem latchHeader_fourcc (s : State) :
    (latchHeader s).fourcc = wordAt (inBytes s s.base.toNat texLen) 84 := rfl
@[simp] theorem latchHeader_variant (s : State) : (latchHeader s).variant = s.variant := rfl
@[simp] theorem latchHeader_bsize (s : State) : (latchHeader s).bsize = s.bsize := rfl
@[simp] theorem latchHeader_bw (s : State) : (latchHeader s).bw = s.bw := rfl
@[simp] theorem latchHeader_bh (s : State) : (latchHeader s).bh = s.bh := rfl
@[simp] theorem latchHeader_nblk (s : State) : (latchHeader s).nblk = s.nblk := rfl
@[simp] theorem latchHeader_blk (s : State) : (latchHeader s).blk = s.blk := rfl
@[simp] theorem latchHeader_c0 (s : State) : (latchHeader s).c0 = s.c0 := rfl
@[simp] theorem latchHeader_c1 (s : State) : (latchHeader s).c1 = s.c1 := rfl
@[simp] theorem latchHeader_e0 (s : State) : (latchHeader s).e0 = s.e0 := rfl
@[simp] theorem latchHeader_e1 (s : State) : (latchHeader s).e1 = s.e1 := rfl
@[simp] theorem latchHeader_cpal (s : State) : (latchHeader s).cpal = s.cpal := rfl
@[simp] theorem latchHeader_cidx (s : State) : (latchHeader s).cidx = s.cidx := rfl
@[simp] theorem latchHeader_mode3 (s : State) : (latchHeader s).mode3 = s.mode3 := rfl
@[simp] theorem latchHeader_a0 (s : State) : (latchHeader s).a0 = s.a0 := rfl
@[simp] theorem latchHeader_a1 (s : State) : (latchHeader s).a1 = s.a1 := rfl
@[simp] theorem latchHeader_aidx (s : State) : (latchHeader s).aidx = s.aidx := rfl
@[simp] theorem latchHeader_aexp (s : State) : (latchHeader s).aexp = s.aexp := rfl
@[simp] theorem latchHeader_apal (s : State) : (latchHeader s).apal = s.apal := rfl
@[simp] theorem latchHeader_amode6 (s : State) : (latchHeader s).amode6 = s.amode6 := rfl
@[simp] theorem latchHeader_pix (s : State) : (latchHeader s).pix = s.pix := rfl
@[simp] theorem latchHeader_input (s : State) : (latchHeader s).input = s.input := rfl
@[simp] theorem latchHeader_output (s : State) : (latchHeader s).output = s.output := rfl
@[simp] theorem latchHeader_refused (s : State) : (latchHeader s).refused = s.refused := rfl
@[simp] theorem latchHeader_inEra (s : State) : (latchHeader s).inEra = s.inEra := rfl
@[simp] theorem latchHeader_outEra (s : State) : (latchHeader s).outEra = s.outEra := rfl
@[simp] theorem latchHeader_draws (s : State) : (latchHeader s).draws = s.draws := rfl
@[simp] theorem latchHeader_inbox (s : State) : (latchHeader s).inbox = s.inbox := rfl
@[simp] theorem latchHeader_hostData (s : State) : (latchHeader s).hostData = s.hostData := rfl

/-! A selected variant (R105). -/

@[simp] theorem setVariant_cfg (v : Variant) (s : State) : (setVariant v s).cfg = s.cfg := rfl
@[simp] theorem setVariant_phase (v : Variant) (s : State) : (setVariant v s).phase = s.phase := rfl
@[simp] theorem setVariant_err (v : Variant) (s : State) : (setVariant v s).err = s.err := rfl
@[simp] theorem setVariant_inLen (v : Variant) (s : State) : (setVariant v s).inLen = s.inLen := rfl
@[simp] theorem setVariant_wrapped (v : Variant) (s : State) : (setVariant v s).wrapped = s.wrapped := rfl
@[simp] theorem setVariant_sizeMatch (v : Variant) (s : State) : (setVariant v s).sizeMatch = s.sizeMatch := rfl
@[simp] theorem setVariant_sizeField (v : Variant) (s : State) : (setVariant v s).sizeField = s.sizeField := rfl
@[simp] theorem setVariant_base (v : Variant) (s : State) : (setVariant v s).base = s.base := rfl
@[simp] theorem setVariant_width (v : Variant) (s : State) : (setVariant v s).width = s.width := rfl
@[simp] theorem setVariant_height (v : Variant) (s : State) : (setVariant v s).height = s.height := rfl
@[simp] theorem setVariant_mipCount (v : Variant) (s : State) : (setVariant v s).mipCount = s.mipCount := rfl
@[simp] theorem setVariant_pfFlags (v : Variant) (s : State) : (setVariant v s).pfFlags = s.pfFlags := rfl
@[simp] theorem setVariant_fourcc (v : Variant) (s : State) : (setVariant v s).fourcc = s.fourcc := rfl
@[simp] theorem setVariant_variant (v : Variant) (s : State) : (setVariant v s).variant = v := rfl
@[simp] theorem setVariant_bsize (v : Variant) (s : State) :
    (setVariant v s).bsize = BitVec.ofNat 32 (blockBytes v) := rfl
@[simp] theorem setVariant_bw (v : Variant) (s : State) : (setVariant v s).bw = s.bw := rfl
@[simp] theorem setVariant_bh (v : Variant) (s : State) : (setVariant v s).bh = s.bh := rfl
@[simp] theorem setVariant_nblk (v : Variant) (s : State) : (setVariant v s).nblk = s.nblk := rfl
@[simp] theorem setVariant_blk (v : Variant) (s : State) : (setVariant v s).blk = s.blk := rfl
@[simp] theorem setVariant_c0 (v : Variant) (s : State) : (setVariant v s).c0 = s.c0 := rfl
@[simp] theorem setVariant_c1 (v : Variant) (s : State) : (setVariant v s).c1 = s.c1 := rfl
@[simp] theorem setVariant_e0 (v : Variant) (s : State) : (setVariant v s).e0 = s.e0 := rfl
@[simp] theorem setVariant_e1 (v : Variant) (s : State) : (setVariant v s).e1 = s.e1 := rfl
@[simp] theorem setVariant_cpal (v : Variant) (s : State) : (setVariant v s).cpal = s.cpal := rfl
@[simp] theorem setVariant_cidx (v : Variant) (s : State) : (setVariant v s).cidx = s.cidx := rfl
@[simp] theorem setVariant_mode3 (v : Variant) (s : State) : (setVariant v s).mode3 = s.mode3 := rfl
@[simp] theorem setVariant_a0 (v : Variant) (s : State) : (setVariant v s).a0 = s.a0 := rfl
@[simp] theorem setVariant_a1 (v : Variant) (s : State) : (setVariant v s).a1 = s.a1 := rfl
@[simp] theorem setVariant_aidx (v : Variant) (s : State) : (setVariant v s).aidx = s.aidx := rfl
@[simp] theorem setVariant_aexp (v : Variant) (s : State) : (setVariant v s).aexp = s.aexp := rfl
@[simp] theorem setVariant_apal (v : Variant) (s : State) : (setVariant v s).apal = s.apal := rfl
@[simp] theorem setVariant_amode6 (v : Variant) (s : State) : (setVariant v s).amode6 = s.amode6 := rfl
@[simp] theorem setVariant_pix (v : Variant) (s : State) : (setVariant v s).pix = s.pix := rfl
@[simp] theorem setVariant_input (v : Variant) (s : State) : (setVariant v s).input = s.input := rfl
@[simp] theorem setVariant_output (v : Variant) (s : State) : (setVariant v s).output = s.output := rfl
@[simp] theorem setVariant_refused (v : Variant) (s : State) : (setVariant v s).refused = s.refused := rfl
@[simp] theorem setVariant_inEra (v : Variant) (s : State) : (setVariant v s).inEra = s.inEra := rfl
@[simp] theorem setVariant_outEra (v : Variant) (s : State) : (setVariant v s).outEra = s.outEra := rfl
@[simp] theorem setVariant_draws (v : Variant) (s : State) : (setVariant v s).draws = s.draws := rfl
@[simp] theorem setVariant_inbox (v : Variant) (s : State) : (setVariant v s).inbox = s.inbox := rfl
@[simp] theorem setVariant_hostData (v : Variant) (s : State) : (setVariant v s).hostData = s.hostData := rfl

/-! The grid (R158). -/

@[simp] theorem setGrid_cfg (s : State) : (setGrid s).cfg = s.cfg := rfl
@[simp] theorem setGrid_phase (s : State) : (setGrid s).phase = s.phase := rfl
@[simp] theorem setGrid_err (s : State) : (setGrid s).err = s.err := rfl
@[simp] theorem setGrid_inLen (s : State) : (setGrid s).inLen = s.inLen := rfl
@[simp] theorem setGrid_wrapped (s : State) : (setGrid s).wrapped = s.wrapped := rfl
@[simp] theorem setGrid_sizeMatch (s : State) : (setGrid s).sizeMatch = s.sizeMatch := rfl
@[simp] theorem setGrid_sizeField (s : State) : (setGrid s).sizeField = s.sizeField := rfl
@[simp] theorem setGrid_base (s : State) : (setGrid s).base = s.base := rfl
@[simp] theorem setGrid_width (s : State) : (setGrid s).width = s.width := rfl
@[simp] theorem setGrid_height (s : State) : (setGrid s).height = s.height := rfl
@[simp] theorem setGrid_mipCount (s : State) : (setGrid s).mipCount = s.mipCount := rfl
@[simp] theorem setGrid_pfFlags (s : State) : (setGrid s).pfFlags = s.pfFlags := rfl
@[simp] theorem setGrid_fourcc (s : State) : (setGrid s).fourcc = s.fourcc := rfl
@[simp] theorem setGrid_variant (s : State) : (setGrid s).variant = s.variant := rfl
@[simp] theorem setGrid_bsize (s : State) : (setGrid s).bsize = s.bsize := rfl
@[simp] theorem setGrid_bw (s : State) : (setGrid s).bw = BitVec.ofNat 32 (ceil4 s.width.toNat) := rfl
@[simp] theorem setGrid_bh (s : State) : (setGrid s).bh = BitVec.ofNat 32 (ceil4 s.height.toNat) := rfl
@[simp] theorem setGrid_nblk (s : State) :
    (setGrid s).nblk = BitVec.ofNat 64 (ceil4 s.width.toNat * ceil4 s.height.toNat) := rfl
@[simp] theorem setGrid_blk (s : State) : (setGrid s).blk = s.blk := rfl
@[simp] theorem setGrid_c0 (s : State) : (setGrid s).c0 = s.c0 := rfl
@[simp] theorem setGrid_c1 (s : State) : (setGrid s).c1 = s.c1 := rfl
@[simp] theorem setGrid_e0 (s : State) : (setGrid s).e0 = s.e0 := rfl
@[simp] theorem setGrid_e1 (s : State) : (setGrid s).e1 = s.e1 := rfl
@[simp] theorem setGrid_cpal (s : State) : (setGrid s).cpal = s.cpal := rfl
@[simp] theorem setGrid_cidx (s : State) : (setGrid s).cidx = s.cidx := rfl
@[simp] theorem setGrid_mode3 (s : State) : (setGrid s).mode3 = s.mode3 := rfl
@[simp] theorem setGrid_a0 (s : State) : (setGrid s).a0 = s.a0 := rfl
@[simp] theorem setGrid_a1 (s : State) : (setGrid s).a1 = s.a1 := rfl
@[simp] theorem setGrid_aidx (s : State) : (setGrid s).aidx = s.aidx := rfl
@[simp] theorem setGrid_aexp (s : State) : (setGrid s).aexp = s.aexp := rfl
@[simp] theorem setGrid_apal (s : State) : (setGrid s).apal = s.apal := rfl
@[simp] theorem setGrid_amode6 (s : State) : (setGrid s).amode6 = s.amode6 := rfl
@[simp] theorem setGrid_pix (s : State) : (setGrid s).pix = s.pix := rfl
@[simp] theorem setGrid_input (s : State) : (setGrid s).input = s.input := rfl
@[simp] theorem setGrid_output (s : State) : (setGrid s).output = s.output := rfl
@[simp] theorem setGrid_refused (s : State) : (setGrid s).refused = s.refused := rfl
@[simp] theorem setGrid_inEra (s : State) : (setGrid s).inEra = s.inEra := rfl
@[simp] theorem setGrid_outEra (s : State) : (setGrid s).outEra = s.outEra := rfl
@[simp] theorem setGrid_draws (s : State) : (setGrid s).draws = s.draws := rfl
@[simp] theorem setGrid_inbox (s : State) : (setGrid s).inbox = s.inbox := rfl
@[simp] theorem setGrid_hostData (s : State) : (setGrid s).hostData = s.hostData := rfl

/-! Entry to DECODE (R244). -/

@[simp] theorem enterDecode_cfg (s : State) : (enterDecode s).cfg = s.cfg := rfl
@[simp] theorem enterDecode_phase (s : State) : (enterDecode s).phase = .decode := rfl
@[simp] theorem enterDecode_err (s : State) : (enterDecode s).err = s.err := rfl
@[simp] theorem enterDecode_inLen (s : State) : (enterDecode s).inLen = s.inLen := rfl
@[simp] theorem enterDecode_wrapped (s : State) : (enterDecode s).wrapped = s.wrapped := rfl
@[simp] theorem enterDecode_sizeMatch (s : State) : (enterDecode s).sizeMatch = s.sizeMatch := rfl
@[simp] theorem enterDecode_sizeField (s : State) : (enterDecode s).sizeField = s.sizeField := rfl
@[simp] theorem enterDecode_base (s : State) : (enterDecode s).base = s.base := rfl
@[simp] theorem enterDecode_width (s : State) : (enterDecode s).width = s.width := rfl
@[simp] theorem enterDecode_height (s : State) : (enterDecode s).height = s.height := rfl
@[simp] theorem enterDecode_mipCount (s : State) : (enterDecode s).mipCount = s.mipCount := rfl
@[simp] theorem enterDecode_pfFlags (s : State) : (enterDecode s).pfFlags = s.pfFlags := rfl
@[simp] theorem enterDecode_fourcc (s : State) : (enterDecode s).fourcc = s.fourcc := rfl
@[simp] theorem enterDecode_variant (s : State) : (enterDecode s).variant = s.variant := rfl
@[simp] theorem enterDecode_bsize (s : State) : (enterDecode s).bsize = s.bsize := rfl
@[simp] theorem enterDecode_bw (s : State) : (enterDecode s).bw = s.bw := rfl
@[simp] theorem enterDecode_bh (s : State) : (enterDecode s).bh = s.bh := rfl
@[simp] theorem enterDecode_nblk (s : State) : (enterDecode s).nblk = s.nblk := rfl
@[simp] theorem enterDecode_blk (s : State) : (enterDecode s).blk = 0 := rfl
@[simp] theorem enterDecode_c0 (s : State) : (enterDecode s).c0 = s.c0 := rfl
@[simp] theorem enterDecode_c1 (s : State) : (enterDecode s).c1 = s.c1 := rfl
@[simp] theorem enterDecode_e0 (s : State) : (enterDecode s).e0 = s.e0 := rfl
@[simp] theorem enterDecode_e1 (s : State) : (enterDecode s).e1 = s.e1 := rfl
@[simp] theorem enterDecode_cpal (s : State) : (enterDecode s).cpal = s.cpal := rfl
@[simp] theorem enterDecode_cidx (s : State) : (enterDecode s).cidx = s.cidx := rfl
@[simp] theorem enterDecode_mode3 (s : State) : (enterDecode s).mode3 = s.mode3 := rfl
@[simp] theorem enterDecode_a0 (s : State) : (enterDecode s).a0 = s.a0 := rfl
@[simp] theorem enterDecode_a1 (s : State) : (enterDecode s).a1 = s.a1 := rfl
@[simp] theorem enterDecode_aidx (s : State) : (enterDecode s).aidx = s.aidx := rfl
@[simp] theorem enterDecode_aexp (s : State) : (enterDecode s).aexp = s.aexp := rfl
@[simp] theorem enterDecode_apal (s : State) : (enterDecode s).apal = s.apal := rfl
@[simp] theorem enterDecode_amode6 (s : State) : (enterDecode s).amode6 = s.amode6 := rfl
@[simp] theorem enterDecode_pix (s : State) : (enterDecode s).pix = s.pix := rfl
@[simp] theorem enterDecode_input (s : State) : (enterDecode s).input = s.input := rfl
@[simp] theorem enterDecode_output (s : State) : (enterDecode s).output = s.output := rfl
@[simp] theorem enterDecode_refused (s : State) : (enterDecode s).refused = s.refused := rfl
@[simp] theorem enterDecode_inEra (s : State) : (enterDecode s).inEra = s.inEra := rfl
@[simp] theorem enterDecode_outEra (s : State) : (enterDecode s).outEra = s.outEra := rfl
@[simp] theorem enterDecode_draws (s : State) : (enterDecode s).draws = s.draws := rfl
@[simp] theorem enterDecode_inbox (s : State) : (enterDecode s).inbox = s.inbox := rfl
@[simp] theorem enterDecode_hostData (s : State) : (enterDecode s).hostData = s.hostData := rfl

end Sys2Proof.Machine
end

