-- ==== Sys2Proof/Laws/Datapath.lean ====
section
/-! SUPPORT. One lemma for each field of State under each update of the datapath (R36 to R44). -/

namespace Sys2Proof.Machine

/-! Writing E0 or E1 (R36); the two registers themselves are in the next lemmas. -/

@[simp] theorem setExpanded_cfg (e : Endpoint) (v : Rgb) (s : State) :
    (setExpanded e v s).cfg = s.cfg := by cases e <;> rfl
@[simp] theorem setExpanded_phase (e : Endpoint) (v : Rgb) (s : State) :
    (setExpanded e v s).phase = s.phase := by cases e <;> rfl
@[simp] theorem setExpanded_err (e : Endpoint) (v : Rgb) (s : State) :
    (setExpanded e v s).err = s.err := by cases e <;> rfl
@[simp] theorem setExpanded_inLen (e : Endpoint) (v : Rgb) (s : State) :
    (setExpanded e v s).inLen = s.inLen := by cases e <;> rfl
@[simp] theorem setExpanded_wrapped (e : Endpoint) (v : Rgb) (s : State) :
    (setExpanded e v s).wrapped = s.wrapped := by cases e <;> rfl
@[simp] theorem setExpanded_sizeMatch (e : Endpoint) (v : Rgb) (s : State) :
    (setExpanded e v s).sizeMatch = s.sizeMatch := by cases e <;> rfl
@[simp] theorem setExpanded_sizeField (e : Endpoint) (v : Rgb) (s : State) :
    (setExpanded e v s).sizeField = s.sizeField := by cases e <;> rfl
@[simp] theorem setExpanded_base (e : Endpoint) (v : Rgb) (s : State) :
    (setExpanded e v s).base = s.base := by cases e <;> rfl
@[simp] theorem setExpanded_width (e : Endpoint) (v : Rgb) (s : State) :
    (setExpanded e v s).width = s.width := by cases e <;> rfl
@[simp] theorem setExpanded_height (e : Endpoint) (v : Rgb) (s : State) :
    (setExpanded e v s).height = s.height := by cases e <;> rfl
@[simp] theorem setExpanded_mipCount (e : Endpoint) (v : Rgb) (s : State) :
    (setExpanded e v s).mipCount = s.mipCount := by cases e <;> rfl
@[simp] theorem setExpanded_pfFlags (e : Endpoint) (v : Rgb) (s : State) :
    (setExpanded e v s).pfFlags = s.pfFlags := by cases e <;> rfl
@[simp] theorem setExpanded_fourcc (e : Endpoint) (v : Rgb) (s : State) :
    (setExpanded e v s).fourcc = s.fourcc := by cases e <;> rfl
@[simp] theorem setExpanded_variant (e : Endpoint) (v : Rgb) (s : State) :
    (setExpanded e v s).variant = s.variant := by cases e <;> rfl
@[simp] theorem setExpanded_bsize (e : Endpoint) (v : Rgb) (s : State) :
    (setExpanded e v s).bsize = s.bsize := by cases e <;> rfl
@[simp] theorem setExpanded_bw (e : Endpoint) (v : Rgb) (s : State) :
    (setExpanded e v s).bw = s.bw := by cases e <;> rfl
@[simp] theorem setExpanded_bh (e : Endpoint) (v : Rgb) (s : State) :
    (setExpanded e v s).bh = s.bh := by cases e <;> rfl
@[simp] theorem setExpanded_nblk (e : Endpoint) (v : Rgb) (s : State) :
    (setExpanded e v s).nblk = s.nblk := by cases e <;> rfl
@[simp] theorem setExpanded_blk (e : Endpoint) (v : Rgb) (s : State) :
    (setExpanded e v s).blk = s.blk := by cases e <;> rfl
@[simp] theorem setExpanded_c0 (e : Endpoint) (v : Rgb) (s : State) :
    (setExpanded e v s).c0 = s.c0 := by cases e <;> rfl
@[simp] theorem setExpanded_c1 (e : Endpoint) (v : Rgb) (s : State) :
    (setExpanded e v s).c1 = s.c1 := by cases e <;> rfl
@[simp] theorem setExpanded_cpal (e : Endpoint) (v : Rgb) (s : State) :
    (setExpanded e v s).cpal = s.cpal := by cases e <;> rfl
@[simp] theorem setExpanded_cidx (e : Endpoint) (v : Rgb) (s : State) :
    (setExpanded e v s).cidx = s.cidx := by cases e <;> rfl
@[simp] theorem setExpanded_mode3 (e : Endpoint) (v : Rgb) (s : State) :
    (setExpanded e v s).mode3 = s.mode3 := by cases e <;> rfl
@[simp] theorem setExpanded_a0 (e : Endpoint) (v : Rgb) (s : State) :
    (setExpanded e v s).a0 = s.a0 := by cases e <;> rfl
@[simp] theorem setExpanded_a1 (e : Endpoint) (v : Rgb) (s : State) :
    (setExpanded e v s).a1 = s.a1 := by cases e <;> rfl
@[simp] theorem setExpanded_aidx (e : Endpoint) (v : Rgb) (s : State) :
    (setExpanded e v s).aidx = s.aidx := by cases e <;> rfl
@[simp] theorem setExpanded_aexp (e : Endpoint) (v : Rgb) (s : State) :
    (setExpanded e v s).aexp = s.aexp := by cases e <;> rfl
@[simp] theorem setExpanded_apal (e : Endpoint) (v : Rgb) (s : State) :
    (setExpanded e v s).apal = s.apal := by cases e <;> rfl
@[simp] theorem setExpanded_amode6 (e : Endpoint) (v : Rgb) (s : State) :
    (setExpanded e v s).amode6 = s.amode6 := by cases e <;> rfl
@[simp] theorem setExpanded_pix (e : Endpoint) (v : Rgb) (s : State) :
    (setExpanded e v s).pix = s.pix := by cases e <;> rfl
@[simp] theorem setExpanded_input (e : Endpoint) (v : Rgb) (s : State) :
    (setExpanded e v s).input = s.input := by cases e <;> rfl
@[simp] theorem setExpanded_output (e : Endpoint) (v : Rgb) (s : State) :
    (setExpanded e v s).output = s.output := by cases e <;> rfl
@[simp] theorem setExpanded_refused (e : Endpoint) (v : Rgb) (s : State) :
    (setExpanded e v s).refused = s.refused := by cases e <;> rfl
@[simp] theorem setExpanded_inEra (e : Endpoint) (v : Rgb) (s : State) :
    (setExpanded e v s).inEra = s.inEra := by cases e <;> rfl
@[simp] theorem setExpanded_outEra (e : Endpoint) (v : Rgb) (s : State) :
    (setExpanded e v s).outEra = s.outEra := by cases e <;> rfl
@[simp] theorem setExpanded_draws (e : Endpoint) (v : Rgb) (s : State) :
    (setExpanded e v s).draws = s.draws := by cases e <;> rfl
@[simp] theorem setExpanded_inbox (e : Endpoint) (v : Rgb) (s : State) :
    (setExpanded e v s).inbox = s.inbox := by cases e <;> rfl
@[simp] theorem setExpanded_hostData (e : Endpoint) (v : Rgb) (s : State) :
    (setExpanded e v s).hostData = s.hostData := by cases e <;> rfl
@[simp] theorem setExpanded_same (e : Endpoint) (v : Rgb) (s : State) : expanded e (setExpanded e v s) = v := by
  cases e <;> rfl
@[simp] theorem setExpanded_e0 (v : Rgb) (s : State) : (setExpanded .e0 v s).e0 = v := rfl
@[simp] theorem setExpanded_e0_e1 (v : Rgb) (s : State) : (setExpanded .e0 v s).e1 = s.e1 := rfl
@[simp] theorem setExpanded_e1 (v : Rgb) (s : State) : (setExpanded .e1 v s).e1 = v := rfl
@[simp] theorem setExpanded_e1_e0 (v : Rgb) (s : State) : (setExpanded .e1 v s).e0 = s.e0 := rfl

/-! The latches of a colour half (R95). -/

@[simp] theorem latchColour_cfg (c0 c1 : Half) (cidx : Word) (s : State) :
    (latchColour c0 c1 cidx s).cfg = s.cfg := rfl
@[simp] theorem latchColour_phase (c0 c1 : Half) (cidx : Word) (s : State) :
    (latchColour c0 c1 cidx s).phase = s.phase := rfl
@[simp] theorem latchColour_err (c0 c1 : Half) (cidx : Word) (s : State) :
    (latchColour c0 c1 cidx s).err = s.err := rfl
@[simp] theorem latchColour_inLen (c0 c1 : Half) (cidx : Word) (s : State) :
    (latchColour c0 c1 cidx s).inLen = s.inLen := rfl
@[simp] theorem latchColour_wrapped (c0 c1 : Half) (cidx : Word) (s : State) :
    (latchColour c0 c1 cidx s).wrapped = s.wrapped := rfl
@[simp] theorem latchColour_sizeMatch (c0 c1 : Half) (cidx : Word) (s : State) :
    (latchColour c0 c1 cidx s).sizeMatch = s.sizeMatch := rfl
@[simp] theorem latchColour_sizeField (c0 c1 : Half) (cidx : Word) (s : State) :
    (latchColour c0 c1 cidx s).sizeField = s.sizeField := rfl
@[simp] theorem latchColour_base (c0 c1 : Half) (cidx : Word) (s : State) :
    (latchColour c0 c1 cidx s).base = s.base := rfl
@[simp] theorem latchColour_width (c0 c1 : Half) (cidx : Word) (s : State) :
    (latchColour c0 c1 cidx s).width = s.width := rfl
@[simp] theorem latchColour_height (c0 c1 : Half) (cidx : Word) (s : State) :
    (latchColour c0 c1 cidx s).height = s.height := rfl
@[simp] theorem latchColour_mipCount (c0 c1 : Half) (cidx : Word) (s : State) :
    (latchColour c0 c1 cidx s).mipCount = s.mipCount := rfl
@[simp] theorem latchColour_pfFlags (c0 c1 : Half) (cidx : Word) (s : State) :
    (latchColour c0 c1 cidx s).pfFlags = s.pfFlags := rfl
@[simp] theorem latchColour_fourcc (c0 c1 : Half) (cidx : Word) (s : State) :
    (latchColour c0 c1 cidx s).fourcc = s.fourcc := rfl
@[simp] theorem latchColour_variant (c0 c1 : Half) (cidx : Word) (s : State) :
    (latchColour c0 c1 cidx s).variant = s.variant := rfl
@[simp] theorem latchColour_bsize (c0 c1 : Half) (cidx : Word) (s : State) :
    (latchColour c0 c1 cidx s).bsize = s.bsize := rfl
@[simp] theorem latchColour_bw (c0 c1 : Half) (cidx : Word) (s : State) : (latchColour c0 c1 cidx s).bw = s.bw := rfl
@[simp] theorem latchColour_bh (c0 c1 : Half) (cidx : Word) (s : State) : (latchColour c0 c1 cidx s).bh = s.bh := rfl
@[simp] theorem latchColour_nblk (c0 c1 : Half) (cidx : Word) (s : State) :
    (latchColour c0 c1 cidx s).nblk = s.nblk := rfl
@[simp] theorem latchColour_blk (c0 c1 : Half) (cidx : Word) (s : State) :
    (latchColour c0 c1 cidx s).blk = s.blk := rfl
@[simp] theorem latchColour_c0 (c0 c1 : Half) (cidx : Word) (s : State) : (latchColour c0 c1 cidx s).c0 = c0 := rfl
@[simp] theorem latchColour_c1 (c0 c1 : Half) (cidx : Word) (s : State) : (latchColour c0 c1 cidx s).c1 = c1 := rfl
@[simp] theorem latchColour_e0 (c0 c1 : Half) (cidx : Word) (s : State) : (latchColour c0 c1 cidx s).e0 = s.e0 := rfl
@[simp] theorem latchColour_e1 (c0 c1 : Half) (cidx : Word) (s : State) : (latchColour c0 c1 cidx s).e1 = s.e1 := rfl
@[simp] theorem latchColour_cpal (c0 c1 : Half) (cidx : Word) (s : State) :
    (latchColour c0 c1 cidx s).cpal = s.cpal := rfl
@[simp] theorem latchColour_cidx (c0 c1 : Half) (cidx : Word) (s : State) :
    (latchColour c0 c1 cidx s).cidx = cidx := rfl
@[simp] theorem latchColour_mode3 (c0 c1 : Half) (cidx : Word) (s : State) :
    (latchColour c0 c1 cidx s).mode3 = s.mode3 := rfl
@[simp] theorem latchColour_a0 (c0 c1 : Half) (cidx : Word) (s : State) : (latchColour c0 c1 cidx s).a0 = s.a0 := rfl
@[simp] theorem latchColour_a1 (c0 c1 : Half) (cidx : Word) (s : State) : (latchColour c0 c1 cidx s).a1 = s.a1 := rfl
@[simp] theorem latchColour_aidx (c0 c1 : Half) (cidx : Word) (s : State) :
    (latchColour c0 c1 cidx s).aidx = s.aidx := rfl
@[simp] theorem latchColour_aexp (c0 c1 : Half) (cidx : Word) (s : State) :
    (latchColour c0 c1 cidx s).aexp = s.aexp := rfl
@[simp] theorem latchColour_apal (c0 c1 : Half) (cidx : Word) (s : State) :
    (latchColour c0 c1 cidx s).apal = s.apal := rfl
@[simp] theorem latchColour_amode6 (c0 c1 : Half) (cidx : Word) (s : State) :
    (latchColour c0 c1 cidx s).amode6 = s.amode6 := rfl
@[simp] theorem latchColour_pix (c0 c1 : Half) (cidx : Word) (s : State) :
    (latchColour c0 c1 cidx s).pix = s.pix := rfl
@[simp] theorem latchColour_input (c0 c1 : Half) (cidx : Word) (s : State) :
    (latchColour c0 c1 cidx s).input = s.input := rfl
@[simp] theorem latchColour_output (c0 c1 : Half) (cidx : Word) (s : State) :
    (latchColour c0 c1 cidx s).output = s.output := rfl
@[simp] theorem latchColour_refused (c0 c1 : Half) (cidx : Word) (s : State) :
    (latchColour c0 c1 cidx s).refused = s.refused := rfl
@[simp] theorem latchColour_inEra (c0 c1 : Half) (cidx : Word) (s : State) :
    (latchColour c0 c1 cidx s).inEra = s.inEra := rfl
@[simp] theorem latchColour_outEra (c0 c1 : Half) (cidx : Word) (s : State) :
    (latchColour c0 c1 cidx s).outEra = s.outEra := rfl
@[simp] theorem latchColour_draws (c0 c1 : Half) (cidx : Word) (s : State) :
    (latchColour c0 c1 cidx s).draws = s.draws := rfl
@[simp] theorem latchColour_inbox (c0 c1 : Half) (cidx : Word) (s : State) :
    (latchColour c0 c1 cidx s).inbox = s.inbox := rfl
@[simp] theorem latchColour_hostData (c0 c1 : Half) (cidx : Word) (s : State) :
    (latchColour c0 c1 cidx s).hostData = s.hostData := rfl

/-! CPAL4 (R184). -/

@[simp] theorem buildPalette4_cfg (s : State) : (buildPalette4 s).cfg = s.cfg := rfl
@[simp] theorem buildPalette4_phase (s : State) : (buildPalette4 s).phase = s.phase := rfl
@[simp] theorem buildPalette4_err (s : State) : (buildPalette4 s).err = s.err := rfl
@[simp] theorem buildPalette4_inLen (s : State) : (buildPalette4 s).inLen = s.inLen := rfl
@[simp] theorem buildPalette4_wrapped (s : State) : (buildPalette4 s).wrapped = s.wrapped := rfl
@[simp] theorem buildPalette4_sizeMatch (s : State) : (buildPalette4 s).sizeMatch = s.sizeMatch := rfl
@[simp] theorem buildPalette4_sizeField (s : State) : (buildPalette4 s).sizeField = s.sizeField := rfl
@[simp] theorem buildPalette4_base (s : State) : (buildPalette4 s).base = s.base := rfl
@[simp] theorem buildPalette4_width (s : State) : (buildPalette4 s).width = s.width := rfl
@[simp] theorem buildPalette4_height (s : State) : (buildPalette4 s).height = s.height := rfl
@[simp] theorem buildPalette4_mipCount (s : State) : (buildPalette4 s).mipCount = s.mipCount := rfl
@[simp] theorem buildPalette4_pfFlags (s : State) : (buildPalette4 s).pfFlags = s.pfFlags := rfl
@[simp] theorem buildPalette4_fourcc (s : State) : (buildPalette4 s).fourcc = s.fourcc := rfl
@[simp] theorem buildPalette4_variant (s : State) : (buildPalette4 s).variant = s.variant := rfl
@[simp] theorem buildPalette4_bsize (s : State) : (buildPalette4 s).bsize = s.bsize := rfl
@[simp] theorem buildPalette4_bw (s : State) : (buildPalette4 s).bw = s.bw := rfl
@[simp] theorem buildPalette4_bh (s : State) : (buildPalette4 s).bh = s.bh := rfl
@[simp] theorem buildPalette4_nblk (s : State) : (buildPalette4 s).nblk = s.nblk := rfl
@[simp] theorem buildPalette4_blk (s : State) : (buildPalette4 s).blk = s.blk := rfl
@[simp] theorem buildPalette4_c0 (s : State) : (buildPalette4 s).c0 = s.c0 := rfl
@[simp] theorem buildPalette4_c1 (s : State) : (buildPalette4 s).c1 = s.c1 := rfl
@[simp] theorem buildPalette4_e0 (s : State) : (buildPalette4 s).e0 = s.e0 := rfl
@[simp] theorem buildPalette4_e1 (s : State) : (buildPalette4 s).e1 = s.e1 := rfl
@[simp] theorem buildPalette4_cpal (s : State) : (buildPalette4 s).cpal = palette4 s.e0 s.e1 := rfl
@[simp] theorem buildPalette4_cidx (s : State) : (buildPalette4 s).cidx = s.cidx := rfl
@[simp] theorem buildPalette4_mode3 (s : State) : (buildPalette4 s).mode3 = false := rfl
@[simp] theorem buildPalette4_a0 (s : State) : (buildPalette4 s).a0 = s.a0 := rfl
@[simp] theorem buildPalette4_a1 (s : State) : (buildPalette4 s).a1 = s.a1 := rfl
@[simp] theorem buildPalette4_aidx (s : State) : (buildPalette4 s).aidx = s.aidx := rfl
@[simp] theorem buildPalette4_aexp (s : State) : (buildPalette4 s).aexp = s.aexp := rfl
@[simp] theorem buildPalette4_apal (s : State) : (buildPalette4 s).apal = s.apal := rfl
@[simp] theorem buildPalette4_amode6 (s : State) : (buildPalette4 s).amode6 = s.amode6 := rfl
@[simp] theorem buildPalette4_pix (s : State) : (buildPalette4 s).pix = s.pix := rfl
@[simp] theorem buildPalette4_input (s : State) : (buildPalette4 s).input = s.input := rfl
@[simp] theorem buildPalette4_output (s : State) : (buildPalette4 s).output = s.output := rfl
@[simp] theorem buildPalette4_refused (s : State) : (buildPalette4 s).refused = s.refused := rfl
@[simp] theorem buildPalette4_inEra (s : State) : (buildPalette4 s).inEra = s.inEra := rfl
@[simp] theorem buildPalette4_outEra (s : State) : (buildPalette4 s).outEra = s.outEra := rfl
@[simp] theorem buildPalette4_draws (s : State) : (buildPalette4 s).draws = s.draws := rfl
@[simp] theorem buildPalette4_inbox (s : State) : (buildPalette4 s).inbox = s.inbox := rfl
@[simp] theorem buildPalette4_hostData (s : State) : (buildPalette4 s).hostData = s.hostData := rfl

/-! CPAL3 (R185). -/

@[simp] theorem buildPalette3_cfg (s : State) : (buildPalette3 s).cfg = s.cfg := rfl
@[simp] theorem buildPalette3_phase (s : State) : (buildPalette3 s).phase = s.phase := rfl
@[simp] theorem buildPalette3_err (s : State) : (buildPalette3 s).err = s.err := rfl
@[simp] theorem buildPalette3_inLen (s : State) : (buildPalette3 s).inLen = s.inLen := rfl
@[simp] theorem buildPalette3_wrapped (s : State) : (buildPalette3 s).wrapped = s.wrapped := rfl
@[simp] theorem buildPalette3_sizeMatch (s : State) : (buildPalette3 s).sizeMatch = s.sizeMatch := rfl
@[simp] theorem buildPalette3_sizeField (s : State) : (buildPalette3 s).sizeField = s.sizeField := rfl
@[simp] theorem buildPalette3_base (s : State) : (buildPalette3 s).base = s.base := rfl
@[simp] theorem buildPalette3_width (s : State) : (buildPalette3 s).width = s.width := rfl
@[simp] theorem buildPalette3_height (s : State) : (buildPalette3 s).height = s.height := rfl
@[simp] theorem buildPalette3_mipCount (s : State) : (buildPalette3 s).mipCount = s.mipCount := rfl
@[simp] theorem buildPalette3_pfFlags (s : State) : (buildPalette3 s).pfFlags = s.pfFlags := rfl
@[simp] theorem buildPalette3_fourcc (s : State) : (buildPalette3 s).fourcc = s.fourcc := rfl
@[simp] theorem buildPalette3_variant (s : State) : (buildPalette3 s).variant = s.variant := rfl
@[simp] theorem buildPalette3_bsize (s : State) : (buildPalette3 s).bsize = s.bsize := rfl
@[simp] theorem buildPalette3_bw (s : State) : (buildPalette3 s).bw = s.bw := rfl
@[simp] theorem buildPalette3_bh (s : State) : (buildPalette3 s).bh = s.bh := rfl
@[simp] theorem buildPalette3_nblk (s : State) : (buildPalette3 s).nblk = s.nblk := rfl
@[simp] theorem buildPalette3_blk (s : State) : (buildPalette3 s).blk = s.blk := rfl
@[simp] theorem buildPalette3_c0 (s : State) : (buildPalette3 s).c0 = s.c0 := rfl
@[simp] theorem buildPalette3_c1 (s : State) : (buildPalette3 s).c1 = s.c1 := rfl
@[simp] theorem buildPalette3_e0 (s : State) : (buildPalette3 s).e0 = s.e0 := rfl
@[simp] theorem buildPalette3_e1 (s : State) : (buildPalette3 s).e1 = s.e1 := rfl
@[simp] theorem buildPalette3_cpal (s : State) : (buildPalette3 s).cpal = palette3 s.e0 s.e1 := rfl
@[simp] theorem buildPalette3_cidx (s : State) : (buildPalette3 s).cidx = s.cidx := rfl
@[simp] theorem buildPalette3_mode3 (s : State) : (buildPalette3 s).mode3 = true := rfl
@[simp] theorem buildPalette3_a0 (s : State) : (buildPalette3 s).a0 = s.a0 := rfl
@[simp] theorem buildPalette3_a1 (s : State) : (buildPalette3 s).a1 = s.a1 := rfl
@[simp] theorem buildPalette3_aidx (s : State) : (buildPalette3 s).aidx = s.aidx := rfl
@[simp] theorem buildPalette3_aexp (s : State) : (buildPalette3 s).aexp = s.aexp := rfl
@[simp] theorem buildPalette3_apal (s : State) : (buildPalette3 s).apal = s.apal := rfl
@[simp] theorem buildPalette3_amode6 (s : State) : (buildPalette3 s).amode6 = s.amode6 := rfl
@[simp] theorem buildPalette3_pix (s : State) : (buildPalette3 s).pix = s.pix := rfl
@[simp] theorem buildPalette3_input (s : State) : (buildPalette3 s).input = s.input := rfl
@[simp] theorem buildPalette3_output (s : State) : (buildPalette3 s).output = s.output := rfl
@[simp] theorem buildPalette3_refused (s : State) : (buildPalette3 s).refused = s.refused := rfl
@[simp] theorem buildPalette3_inEra (s : State) : (buildPalette3 s).inEra = s.inEra := rfl
@[simp] theorem buildPalette3_outEra (s : State) : (buildPalette3 s).outEra = s.outEra := rfl
@[simp] theorem buildPalette3_draws (s : State) : (buildPalette3 s).draws = s.draws := rfl
@[simp] theorem buildPalette3_inbox (s : State) : (buildPalette3 s).inbox = s.inbox := rfl
@[simp] theorem buildPalette3_hostData (s : State) : (buildPalette3 s).hostData = s.hostData := rfl

/-! CLUT (R189); the pixels are in Laws/Block.lean. -/

@[simp] theorem lookupColours_cfg (s : State) : (lookupColours s).cfg = s.cfg := rfl
@[simp] theorem lookupColours_phase (s : State) : (lookupColours s).phase = s.phase := rfl
@[simp] theorem lookupColours_err (s : State) : (lookupColours s).err = s.err := rfl
@[simp] theorem lookupColours_inLen (s : State) : (lookupColours s).inLen = s.inLen := rfl
@[simp] theorem lookupColours_wrapped (s : State) : (lookupColours s).wrapped = s.wrapped := rfl
@[simp] theorem lookupColours_sizeMatch (s : State) : (lookupColours s).sizeMatch = s.sizeMatch := rfl
@[simp] theorem lookupColours_sizeField (s : State) : (lookupColours s).sizeField = s.sizeField := rfl
@[simp] theorem lookupColours_base (s : State) : (lookupColours s).base = s.base := rfl
@[simp] theorem lookupColours_width (s : State) : (lookupColours s).width = s.width := rfl
@[simp] theorem lookupColours_height (s : State) : (lookupColours s).height = s.height := rfl
@[simp] theorem lookupColours_mipCount (s : State) : (lookupColours s).mipCount = s.mipCount := rfl
@[simp] theorem lookupColours_pfFlags (s : State) : (lookupColours s).pfFlags = s.pfFlags := rfl
@[simp] theorem lookupColours_fourcc (s : State) : (lookupColours s).fourcc = s.fourcc := rfl
@[simp] theorem lookupColours_variant (s : State) : (lookupColours s).variant = s.variant := rfl
@[simp] theorem lookupColours_bsize (s : State) : (lookupColours s).bsize = s.bsize := rfl
@[simp] theorem lookupColours_bw (s : State) : (lookupColours s).bw = s.bw := rfl
@[simp] theorem lookupColours_bh (s : State) : (lookupColours s).bh = s.bh := rfl
@[simp] theorem lookupColours_nblk (s : State) : (lookupColours s).nblk = s.nblk := rfl
@[simp] theorem lookupColours_blk (s : State) : (lookupColours s).blk = s.blk := rfl
@[simp] theorem lookupColours_c0 (s : State) : (lookupColours s).c0 = s.c0 := rfl
@[simp] theorem lookupColours_c1 (s : State) : (lookupColours s).c1 = s.c1 := rfl
@[simp] theorem lookupColours_e0 (s : State) : (lookupColours s).e0 = s.e0 := rfl
@[simp] theorem lookupColours_e1 (s : State) : (lookupColours s).e1 = s.e1 := rfl
@[simp] theorem lookupColours_cpal (s : State) : (lookupColours s).cpal = s.cpal := rfl
@[simp] theorem lookupColours_cidx (s : State) : (lookupColours s).cidx = s.cidx := rfl
@[simp] theorem lookupColours_mode3 (s : State) : (lookupColours s).mode3 = s.mode3 := rfl
@[simp] theorem lookupColours_a0 (s : State) : (lookupColours s).a0 = s.a0 := rfl
@[simp] theorem lookupColours_a1 (s : State) : (lookupColours s).a1 = s.a1 := rfl
@[simp] theorem lookupColours_aidx (s : State) : (lookupColours s).aidx = s.aidx := rfl
@[simp] theorem lookupColours_aexp (s : State) : (lookupColours s).aexp = s.aexp := rfl
@[simp] theorem lookupColours_apal (s : State) : (lookupColours s).apal = s.apal := rfl
@[simp] theorem lookupColours_amode6 (s : State) : (lookupColours s).amode6 = s.amode6 := rfl
@[simp] theorem lookupColours_input (s : State) : (lookupColours s).input = s.input := rfl
@[simp] theorem lookupColours_output (s : State) : (lookupColours s).output = s.output := rfl
@[simp] theorem lookupColours_refused (s : State) : (lookupColours s).refused = s.refused := rfl
@[simp] theorem lookupColours_inEra (s : State) : (lookupColours s).inEra = s.inEra := rfl
@[simp] theorem lookupColours_outEra (s : State) : (lookupColours s).outEra = s.outEra := rfl
@[simp] theorem lookupColours_draws (s : State) : (lookupColours s).draws = s.draws := rfl
@[simp] theorem lookupColours_inbox (s : State) : (lookupColours s).inbox = s.inbox := rfl
@[simp] theorem lookupColours_hostData (s : State) : (lookupColours s).hostData = s.hostData := rfl

/-! The alphas of the pixels (R211, R215); the pixels are in Laws/Block.lean. -/

@[simp] theorem setAlphas_cfg (f : Fin 16 → Byte) (s : State) : (setAlphas f s).cfg = s.cfg := rfl
@[simp] theorem setAlphas_phase (f : Fin 16 → Byte) (s : State) : (setAlphas f s).phase = s.phase := rfl
@[simp] theorem setAlphas_err (f : Fin 16 → Byte) (s : State) : (setAlphas f s).err = s.err := rfl
@[simp] theorem setAlphas_inLen (f : Fin 16 → Byte) (s : State) : (setAlphas f s).inLen = s.inLen := rfl
@[simp] theorem setAlphas_wrapped (f : Fin 16 → Byte) (s : State) : (setAlphas f s).wrapped = s.wrapped := rfl
@[simp] theorem setAlphas_sizeMatch (f : Fin 16 → Byte) (s : State) : (setAlphas f s).sizeMatch = s.sizeMatch := rfl
@[simp] theorem setAlphas_sizeField (f : Fin 16 → Byte) (s : State) : (setAlphas f s).sizeField = s.sizeField := rfl
@[simp] theorem setAlphas_base (f : Fin 16 → Byte) (s : State) : (setAlphas f s).base = s.base := rfl
@[simp] theorem setAlphas_width (f : Fin 16 → Byte) (s : State) : (setAlphas f s).width = s.width := rfl
@[simp] theorem setAlphas_height (f : Fin 16 → Byte) (s : State) : (setAlphas f s).height = s.height := rfl
@[simp] theorem setAlphas_mipCount (f : Fin 16 → Byte) (s : State) : (setAlphas f s).mipCount = s.mipCount := rfl
@[simp] theorem setAlphas_pfFlags (f : Fin 16 → Byte) (s : State) : (setAlphas f s).pfFlags = s.pfFlags := rfl
@[simp] theorem setAlphas_fourcc (f : Fin 16 → Byte) (s : State) : (setAlphas f s).fourcc = s.fourcc := rfl
@[simp] theorem setAlphas_variant (f : Fin 16 → Byte) (s : State) : (setAlphas f s).variant = s.variant := rfl
@[simp] theorem setAlphas_bsize (f : Fin 16 → Byte) (s : State) : (setAlphas f s).bsize = s.bsize := rfl
@[simp] theorem setAlphas_bw (f : Fin 16 → Byte) (s : State) : (setAlphas f s).bw = s.bw := rfl
@[simp] theorem setAlphas_bh (f : Fin 16 → Byte) (s : State) : (setAlphas f s).bh = s.bh := rfl
@[simp] theorem setAlphas_nblk (f : Fin 16 → Byte) (s : State) : (setAlphas f s).nblk = s.nblk := rfl
@[simp] theorem setAlphas_blk (f : Fin 16 → Byte) (s : State) : (setAlphas f s).blk = s.blk := rfl
@[simp] theorem setAlphas_c0 (f : Fin 16 → Byte) (s : State) : (setAlphas f s).c0 = s.c0 := rfl
@[simp] theorem setAlphas_c1 (f : Fin 16 → Byte) (s : State) : (setAlphas f s).c1 = s.c1 := rfl
@[simp] theorem setAlphas_e0 (f : Fin 16 → Byte) (s : State) : (setAlphas f s).e0 = s.e0 := rfl
@[simp] theorem setAlphas_e1 (f : Fin 16 → Byte) (s : State) : (setAlphas f s).e1 = s.e1 := rfl
@[simp] theorem setAlphas_cpal (f : Fin 16 → Byte) (s : State) : (setAlphas f s).cpal = s.cpal := rfl
@[simp] theorem setAlphas_cidx (f : Fin 16 → Byte) (s : State) : (setAlphas f s).cidx = s.cidx := rfl
@[simp] theorem setAlphas_mode3 (f : Fin 16 → Byte) (s : State) : (setAlphas f s).mode3 = s.mode3 := rfl
@[simp] theorem setAlphas_a0 (f : Fin 16 → Byte) (s : State) : (setAlphas f s).a0 = s.a0 := rfl
@[simp] theorem setAlphas_a1 (f : Fin 16 → Byte) (s : State) : (setAlphas f s).a1 = s.a1 := rfl
@[simp] theorem setAlphas_aidx (f : Fin 16 → Byte) (s : State) : (setAlphas f s).aidx = s.aidx := rfl
@[simp] theorem setAlphas_aexp (f : Fin 16 → Byte) (s : State) : (setAlphas f s).aexp = s.aexp := rfl
@[simp] theorem setAlphas_apal (f : Fin 16 → Byte) (s : State) : (setAlphas f s).apal = s.apal := rfl
@[simp] theorem setAlphas_amode6 (f : Fin 16 → Byte) (s : State) : (setAlphas f s).amode6 = s.amode6 := rfl
@[simp] theorem setAlphas_input (f : Fin 16 → Byte) (s : State) : (setAlphas f s).input = s.input := rfl
@[simp] theorem setAlphas_output (f : Fin 16 → Byte) (s : State) : (setAlphas f s).output = s.output := rfl
@[simp] theorem setAlphas_refused (f : Fin 16 → Byte) (s : State) : (setAlphas f s).refused = s.refused := rfl
@[simp] theorem setAlphas_inEra (f : Fin 16 → Byte) (s : State) : (setAlphas f s).inEra = s.inEra := rfl
@[simp] theorem setAlphas_outEra (f : Fin 16 → Byte) (s : State) : (setAlphas f s).outEra = s.outEra := rfl
@[simp] theorem setAlphas_draws (f : Fin 16 → Byte) (s : State) : (setAlphas f s).draws = s.draws := rfl
@[simp] theorem setAlphas_inbox (f : Fin 16 → Byte) (s : State) : (setAlphas f s).inbox = s.inbox := rfl
@[simp] theorem setAlphas_hostData (f : Fin 16 → Byte) (s : State) : (setAlphas f s).hostData = s.hostData := rfl

/-! APAL8 (R212). -/

@[simp] theorem buildAlpha8_cfg (s : State) : (buildAlpha8 s).cfg = s.cfg := rfl
@[simp] theorem buildAlpha8_phase (s : State) : (buildAlpha8 s).phase = s.phase := rfl
@[simp] theorem buildAlpha8_err (s : State) : (buildAlpha8 s).err = s.err := rfl
@[simp] theorem buildAlpha8_inLen (s : State) : (buildAlpha8 s).inLen = s.inLen := rfl
@[simp] theorem buildAlpha8_wrapped (s : State) : (buildAlpha8 s).wrapped = s.wrapped := rfl
@[simp] theorem buildAlpha8_sizeMatch (s : State) : (buildAlpha8 s).sizeMatch = s.sizeMatch := rfl
@[simp] theorem buildAlpha8_sizeField (s : State) : (buildAlpha8 s).sizeField = s.sizeField := rfl
@[simp] theorem buildAlpha8_base (s : State) : (buildAlpha8 s).base = s.base := rfl
@[simp] theorem buildAlpha8_width (s : State) : (buildAlpha8 s).width = s.width := rfl
@[simp] theorem buildAlpha8_height (s : State) : (buildAlpha8 s).height = s.height := rfl
@[simp] theorem buildAlpha8_mipCount (s : State) : (buildAlpha8 s).mipCount = s.mipCount := rfl
@[simp] theorem buildAlpha8_pfFlags (s : State) : (buildAlpha8 s).pfFlags = s.pfFlags := rfl
@[simp] theorem buildAlpha8_fourcc (s : State) : (buildAlpha8 s).fourcc = s.fourcc := rfl
@[simp] theorem buildAlpha8_variant (s : State) : (buildAlpha8 s).variant = s.variant := rfl
@[simp] theorem buildAlpha8_bsize (s : State) : (buildAlpha8 s).bsize = s.bsize := rfl
@[simp] theorem buildAlpha8_bw (s : State) : (buildAlpha8 s).bw = s.bw := rfl
@[simp] theorem buildAlpha8_bh (s : State) : (buildAlpha8 s).bh = s.bh := rfl
@[simp] theorem buildAlpha8_nblk (s : State) : (buildAlpha8 s).nblk = s.nblk := rfl
@[simp] theorem buildAlpha8_blk (s : State) : (buildAlpha8 s).blk = s.blk := rfl
@[simp] theorem buildAlpha8_c0 (s : State) : (buildAlpha8 s).c0 = s.c0 := rfl
@[simp] theorem buildAlpha8_c1 (s : State) : (buildAlpha8 s).c1 = s.c1 := rfl
@[simp] theorem buildAlpha8_e0 (s : State) : (buildAlpha8 s).e0 = s.e0 := rfl
@[simp] theorem buildAlpha8_e1 (s : State) : (buildAlpha8 s).e1 = s.e1 := rfl
@[simp] theorem buildAlpha8_cpal (s : State) : (buildAlpha8 s).cpal = s.cpal := rfl
@[simp] theorem buildAlpha8_cidx (s : State) : (buildAlpha8 s).cidx = s.cidx := rfl
@[simp] theorem buildAlpha8_mode3 (s : State) : (buildAlpha8 s).mode3 = s.mode3 := rfl
@[simp] theorem buildAlpha8_a0 (s : State) : (buildAlpha8 s).a0 = s.a0 := rfl
@[simp] theorem buildAlpha8_a1 (s : State) : (buildAlpha8 s).a1 = s.a1 := rfl
@[simp] theorem buildAlpha8_aidx (s : State) : (buildAlpha8 s).aidx = s.aidx := rfl
@[simp] theorem buildAlpha8_aexp (s : State) : (buildAlpha8 s).aexp = s.aexp := rfl
@[simp] theorem buildAlpha8_apal (s : State) : (buildAlpha8 s).apal = alpha8 s.a0 s.a1 := rfl
@[simp] theorem buildAlpha8_amode6 (s : State) : (buildAlpha8 s).amode6 = false := rfl
@[simp] theorem buildAlpha8_pix (s : State) : (buildAlpha8 s).pix = s.pix := rfl
@[simp] theorem buildAlpha8_input (s : State) : (buildAlpha8 s).input = s.input := rfl
@[simp] theorem buildAlpha8_output (s : State) : (buildAlpha8 s).output = s.output := rfl
@[simp] theorem buildAlpha8_refused (s : State) : (buildAlpha8 s).refused = s.refused := rfl
@[simp] theorem buildAlpha8_inEra (s : State) : (buildAlpha8 s).inEra = s.inEra := rfl
@[simp] theorem buildAlpha8_outEra (s : State) : (buildAlpha8 s).outEra = s.outEra := rfl
@[simp] theorem buildAlpha8_draws (s : State) : (buildAlpha8 s).draws = s.draws := rfl
@[simp] theorem buildAlpha8_inbox (s : State) : (buildAlpha8 s).inbox = s.inbox := rfl
@[simp] theorem buildAlpha8_hostData (s : State) : (buildAlpha8 s).hostData = s.hostData := rfl

/-! APAL6 (R213). -/

@[simp] theorem buildAlpha6_cfg (s : State) : (buildAlpha6 s).cfg = s.cfg := rfl
@[simp] theorem buildAlpha6_phase (s : State) : (buildAlpha6 s).phase = s.phase := rfl
@[simp] theorem buildAlpha6_err (s : State) : (buildAlpha6 s).err = s.err := rfl
@[simp] theorem buildAlpha6_inLen (s : State) : (buildAlpha6 s).inLen = s.inLen := rfl
@[simp] theorem buildAlpha6_wrapped (s : State) : (buildAlpha6 s).wrapped = s.wrapped := rfl
@[simp] theorem buildAlpha6_sizeMatch (s : State) : (buildAlpha6 s).sizeMatch = s.sizeMatch := rfl
@[simp] theorem buildAlpha6_sizeField (s : State) : (buildAlpha6 s).sizeField = s.sizeField := rfl
@[simp] theorem buildAlpha6_base (s : State) : (buildAlpha6 s).base = s.base := rfl
@[simp] theorem buildAlpha6_width (s : State) : (buildAlpha6 s).width = s.width := rfl
@[simp] theorem buildAlpha6_height (s : State) : (buildAlpha6 s).height = s.height := rfl
@[simp] theorem buildAlpha6_mipCount (s : State) : (buildAlpha6 s).mipCount = s.mipCount := rfl
@[simp] theorem buildAlpha6_pfFlags (s : State) : (buildAlpha6 s).pfFlags = s.pfFlags := rfl
@[simp] theorem buildAlpha6_fourcc (s : State) : (buildAlpha6 s).fourcc = s.fourcc := rfl
@[simp] theorem buildAlpha6_variant (s : State) : (buildAlpha6 s).variant = s.variant := rfl
@[simp] theorem buildAlpha6_bsize (s : State) : (buildAlpha6 s).bsize = s.bsize := rfl
@[simp] theorem buildAlpha6_bw (s : State) : (buildAlpha6 s).bw = s.bw := rfl
@[simp] theorem buildAlpha6_bh (s : State) : (buildAlpha6 s).bh = s.bh := rfl
@[simp] theorem buildAlpha6_nblk (s : State) : (buildAlpha6 s).nblk = s.nblk := rfl
@[simp] theorem buildAlpha6_blk (s : State) : (buildAlpha6 s).blk = s.blk := rfl
@[simp] theorem buildAlpha6_c0 (s : State) : (buildAlpha6 s).c0 = s.c0 := rfl
@[simp] theorem buildAlpha6_c1 (s : State) : (buildAlpha6 s).c1 = s.c1 := rfl
@[simp] theorem buildAlpha6_e0 (s : State) : (buildAlpha6 s).e0 = s.e0 := rfl
@[simp] theorem buildAlpha6_e1 (s : State) : (buildAlpha6 s).e1 = s.e1 := rfl
@[simp] theorem buildAlpha6_cpal (s : State) : (buildAlpha6 s).cpal = s.cpal := rfl
@[simp] theorem buildAlpha6_cidx (s : State) : (buildAlpha6 s).cidx = s.cidx := rfl
@[simp] theorem buildAlpha6_mode3 (s : State) : (buildAlpha6 s).mode3 = s.mode3 := rfl
@[simp] theorem buildAlpha6_a0 (s : State) : (buildAlpha6 s).a0 = s.a0 := rfl
@[simp] theorem buildAlpha6_a1 (s : State) : (buildAlpha6 s).a1 = s.a1 := rfl
@[simp] theorem buildAlpha6_aidx (s : State) : (buildAlpha6 s).aidx = s.aidx := rfl
@[simp] theorem buildAlpha6_aexp (s : State) : (buildAlpha6 s).aexp = s.aexp := rfl
@[simp] theorem buildAlpha6_apal (s : State) : (buildAlpha6 s).apal = alpha6 s.a0 s.a1 := rfl
@[simp] theorem buildAlpha6_amode6 (s : State) : (buildAlpha6 s).amode6 = true := rfl
@[simp] theorem buildAlpha6_pix (s : State) : (buildAlpha6 s).pix = s.pix := rfl
@[simp] theorem buildAlpha6_input (s : State) : (buildAlpha6 s).input = s.input := rfl
@[simp] theorem buildAlpha6_output (s : State) : (buildAlpha6 s).output = s.output := rfl
@[simp] theorem buildAlpha6_refused (s : State) : (buildAlpha6 s).refused = s.refused := rfl
@[simp] theorem buildAlpha6_inEra (s : State) : (buildAlpha6 s).inEra = s.inEra := rfl
@[simp] theorem buildAlpha6_outEra (s : State) : (buildAlpha6 s).outEra = s.outEra := rfl
@[simp] theorem buildAlpha6_draws (s : State) : (buildAlpha6 s).draws = s.draws := rfl
@[simp] theorem buildAlpha6_inbox (s : State) : (buildAlpha6 s).inbox = s.inbox := rfl
@[simp] theorem buildAlpha6_hostData (s : State) : (buildAlpha6 s).hostData = s.hostData := rfl

end Sys2Proof.Machine
end

