-- ==== Sys2Proof/Laws/Decode.lean ====
section
/-! SUPPORT. The laws of the byte orders and of the operation map. -/

namespace Sys2Proof

@[simp] theorem leBytes_length (n v : Nat) : (leBytes n v).length = n := by
  induction n generalizing v with
  | zero => rfl
  | succ n ih => simp [leBytes, ih]

theorem le_lt (bs : List Byte) : le bs < 256 ^ bs.length := by
  induction bs with
  | nil => simp [le]
  | cons b bs ih =>
    have := b.isLt
    simp only [le, List.length_cons, Nat.pow_succ]
    omega

/-- Reading the bytes of a value gives the value. -/
theorem le_leBytes (n v : Nat) : le (leBytes n v) = v % 256 ^ n := by
  induction n generalizing v with
  | zero => simp [le, leBytes, Nat.mod_one]
  | succ n ih =>
    have h := Nat.mod_mul (x := v) (a := 256) (b := 256 ^ n)
    simp only [le, leBytes, ih, BitVec.toNat_ofNat, Nat.pow_succ]
    rw [Nat.mul_comm (256 ^ n) 256, h]

/-- The bytes of the value of a byte list are that list. -/
theorem leBytes_le (bs : List Byte) : leBytes bs.length (le bs) = bs := by
  induction bs with
  | nil => rfl
  | cons b bs ih =>
    have h := b.isLt
    have hd : (b.toNat + 256 * le bs) / 256 = le bs := by omega
    have hm : BitVec.ofNat 8 (b.toNat + 256 * le bs) = b := by
      apply BitVec.eq_of_toNat_eq
      simp only [BitVec.toNat_ofNat]
      omega
    simp only [List.length_cons, le, leBytes, hd, hm, ih]

/-- The bytes of a register's value, read back. -/
theorem ofNat_le_leBytes (w n : Nat) (x : BitVec w) (h : 256 ^ n = 2 ^ w) :
    BitVec.ofNat w (le (leBytes n x.toNat)) = x := by
  apply BitVec.eq_of_toNat_eq
  rw [le_leBytes, h, BitVec.toNat_ofNat, Nat.mod_mod, Nat.mod_eq_of_lt x.isLt]

@[simp] theorem tooShort_iff (bs : List Byte) (n : Nat) : tooShort bs n = true ↔ bs.length < n := by
  simp only [tooShort, List.length_take, decide_eq_true_eq]
  omega

theorem slice_append_left (xs ys : List Byte) {a n : Nat} (h : a + n ≤ xs.length) :
    slice (xs ++ ys) a n = slice xs a n := by
  have h1 : a ≤ xs.length := by omega
  have h2 : n ≤ (xs.drop a).length := by simp only [List.length_drop]; omega
  simp only [slice, List.drop_append_of_le_length h1, List.take_append_of_le_length h2]

theorem slice_append_right (xs ys : List Byte) (a n : Nat) :
    slice (xs ++ ys) (xs.length + a) n = slice ys a n := by
  have h : List.drop (xs.length + a) xs = [] := List.drop_eq_nil_of_le (by omega)
  simp [slice, List.drop_append, h]

theorem slice_length (bs : List Byte) (a n : Nat) (h : a + n ≤ bs.length) : (slice bs a n).length = n := by
  simp only [slice, List.length_take, List.length_drop]
  omega

theorem slice_append_slice (bs : List Byte) (a m n : Nat) :
    slice bs a m ++ slice bs (a + m) n = slice bs a (m + n) := by
  simp only [slice, List.take_add, List.drop_drop]

/-- A field read from n bytes is written back as those bytes. -/
theorem leBytes_ofNat_le (w n : Nat) (xs : List Byte) (hn : xs.length = n) (h : 256 ^ n = 2 ^ w) :
    leBytes n (BitVec.ofNat w (le xs)).toNat = xs := by
  subst hn
  rw [BitVec.toNat_ofNat, ← h, Nat.mod_eq_of_lt (le_lt xs), leBytes_le]

theorem slice_full (xs : List Byte) : slice xs 0 xs.length = xs := by simp [slice]

/-- R105: exactly the three words with PF_FLAGS bit 2 set select a variant. -/
theorem variantOf_eq (pf f : Word) :
    variantOf pf f =
      if Fmt.hasFourcc pf ∧ f = Fmt.dxt1 then .dxt1
      else if Fmt.hasFourcc pf ∧ f = Fmt.dxt3 then .dxt3
      else if Fmt.hasFourcc pf ∧ f = Fmt.dxt5 then .dxt5
      else .unset := by
  unfold variantOf
  cases Fmt.hasFourcc pf <;> simp

theorem magicBytes_length (c : Config) : (magicBytes c).length = 9 := by simp [magicBytes]

theorem tagBytes_length (c : Config) : (tagBytes c).length = 4 := by simp [tagBytes]

end Sys2Proof
end

