-- ==== Sys2Proof/Laws/Mem.lean ====
section
/-! SUPPORT. The laws of the byte spaces: a read after a write, and the canonical form. -/

namespace Sys2Proof.Machine

theorem memGet_memPut_same (m : Mem) (a : Nat) (b : Byte) : memGet (memPut m a b) a = some b := by
  induction m with
  | nil => simp [memPut, memGet]
  | cons c m ih =>
    simp only [memPut]
    split
    · simp [memGet]
    · split
      · simp [memGet]
      · rename_i h1 h2
        simp [memGet, Ne.symm h2, ih]

theorem memGet_memPut_other (m : Mem) {a x : Nat} (b : Byte) (h : x ≠ a) :
    memGet (memPut m a b) x = memGet m x := by
  induction m with
  | nil => simp [memPut, memGet, Ne.symm h]
  | cons c m ih =>
    simp only [memPut]
    split
    · simp [memGet, Ne.symm h]
    · split
      · rename_i h1 h2
        have hc : ¬ c.1 = x := by omega
        simp [memGet, Ne.symm h, hc]
      · simp [memGet, ih]

/-- Any write into consecutive addresses leaves every other address as it was. -/
theorem memGet_memPutAll_other (m : Mem) (bs : List Byte) (a x : Nat) (h : x < a ∨ a + bs.length ≤ x) :
    memGet (memPutAll m a bs) x = memGet m x := by
  induction bs generalizing a with
  | nil => rfl
  | cons b bs ih =>
    simp only [List.length_cons] at h
    rw [memPutAll, memGet_memPut_other _ _ (by omega), ih (a + 1) (by omega)]

/-- A read inside the written addresses gives the byte written there. -/
theorem memGet_memPutAll_inside (m : Mem) (bs : List Byte) (a i : Nat) (h : i < bs.length) :
    memGet (memPutAll m a bs) (a + i) = some bs[i] := by
  induction bs generalizing a i with
  | nil => simp at h
  | cons b bs ih =>
    cases i with
    | zero => simp [memPutAll, memGet_memPut_same]
    | succ i =>
      have hi : i < bs.length := by simpa using h
      rw [memPutAll, memGet_memPut_other _ _ (by omega)]
      have e : a + (i + 1) = a + 1 + i := by omega
      rw [e, ih (a + 1) i hi]
      rfl

/-- The canonical form, read one cell at a time. -/
theorem Mem.wf_cons (c : Host.Cell) (m : Mem) :
    Mem.wf (c :: m) = true ↔ (∀ d ∈ m, c.1 < d.1) ∧ Mem.wf m = true := by
  induction m generalizing c with
  | nil => simp [Mem.wf]
  | cons d m ih =>
    have e : Mem.wf (c :: d :: m) = (decide (c.1 < d.1) && Mem.wf (d :: m)) := rfl
    rw [e]
    simp only [Bool.and_eq_true, decide_eq_true_eq, List.mem_cons]
    constructor
    · rintro ⟨h1, h2⟩
      refine ⟨?_, h2⟩
      rintro x (rfl | hx)
      · exact h1
      · exact Nat.lt_trans h1 (((ih d).mp h2).1 x hx)
    · rintro ⟨h1, h2⟩
      exact ⟨h1 d (Or.inl rfl), h2⟩

theorem mem_memPut (m : Mem) (a : Nat) (b : Byte) (c : Host.Cell) (h : c ∈ memPut m a b) :
    c = (a, b) ∨ c ∈ m := by
  induction m with
  | nil => exact Or.inl (List.mem_singleton.mp h)
  | cons d m ih =>
    simp only [memPut] at h
    split at h
    · rcases List.mem_cons.mp h with h | h
      · exact Or.inl h
      · exact Or.inr h
    · split at h
      · rcases List.mem_cons.mp h with h | h
        · exact Or.inl h
        · exact Or.inr (List.mem_cons_of_mem _ h)
      · rcases List.mem_cons.mp h with h | h
        · exact Or.inr (h ▸ List.mem_cons_self ..)
        · rcases ih h with h | h
          · exact Or.inl h
          · exact Or.inr (List.mem_cons_of_mem _ h)

/-- Every byte write keeps the canonical form. -/
theorem memPut_wf (m : Mem) (a : Nat) (b : Byte) (h : Mem.wf m = true) : Mem.wf (memPut m a b) = true := by
  induction m with
  | nil => rfl
  | cons c m ih =>
    have hc := (Mem.wf_cons c m).mp h
    simp only [memPut]
    split
    · rename_i hlt
      refine (Mem.wf_cons _ _).mpr ⟨?_, h⟩
      intro d hd
      rcases List.mem_cons.mp hd with rfl | hd
      · exact hlt
      · exact Nat.lt_trans hlt (hc.1 d hd)
    · split
      · rename_i _ heq
        exact (Mem.wf_cons _ _).mpr ⟨fun d hd => by simpa [heq] using hc.1 d hd, hc.2⟩
      · rename_i h1 h2
        refine (Mem.wf_cons _ _).mpr ⟨?_, ih hc.2⟩
        intro d hd
        rcases mem_memPut m a b d hd with rfl | hd
        · show c.1 < a
          omega
        · exact hc.1 d hd

/-- Every write of consecutive bytes keeps the canonical form. -/
theorem memPutAll_wf (m : Mem) (a : Nat) (bs : List Byte) (h : Mem.wf m = true) :
    Mem.wf (memPutAll m a bs) = true := by
  induction bs generalizing a with
  | nil => exact h
  | cons b bs ih => exact memPut_wf _ _ _ (ih (a + 1))

/-- A write lists no address but those it had and those it writes. -/
theorem mem_memPutAll (m : Mem) (a : Nat) (bs : List Byte) (c : Host.Cell) (h : c ∈ memPutAll m a bs) :
    c ∈ m ∨ (a ≤ c.1 ∧ c.1 < a + bs.length) := by
  induction bs generalizing a with
  | nil => exact Or.inl h
  | cons b bs ih =>
    rcases mem_memPut _ _ _ _ h with rfl | h
    · exact Or.inr (by simp)
    · rcases ih (a + 1) h with h | h
      · exact Or.inl h
      · refine Or.inr ?_
        simp only [List.length_cons]
        omega

/-- An address at or above every listed one lists nothing. -/
theorem memGet_none (m : Mem) (a n : Nat) (h : ∀ c ∈ m, c.1 < n) (ha : n ≤ a) : memGet m a = none := by
  induction m with
  | nil => rfl
  | cons c m ih =>
    have h1 := h c (List.mem_cons_self ..)
    have h2 : ¬ c.1 = a := by omega
    simp only [memGet, h2, if_false]
    exact ih fun d hd => h d (List.mem_cons_of_mem _ hd)

/-- Two canonical memories that read alike at every address are equal data. -/
theorem Mem.wf_ext (m n : Mem) (hm : Mem.wf m = true) (hn : Mem.wf n = true)
    (h : ∀ a, memGet m a = memGet n a) : m = n := by
  induction m generalizing n with
  | nil =>
    cases n with
    | nil => rfl
    | cons d n => simpa [memGet] using h d.1
  | cons c m ih =>
    cases n with
    | nil => simpa [memGet] using h c.1
    | cons d n =>
      have hc := (Mem.wf_cons c m).mp hm
      have hd := (Mem.wf_cons d n).mp hn
      have low : ∀ (k : Mem) (x : Nat), (∀ e ∈ k, x < e.1) → memGet k x = none := by
        intro k x
        induction k with
        | nil => intro _; rfl
        | cons e k ihk =>
          intro hk
          have h1 := hk e (List.mem_cons_self ..)
          have h2 : ¬ e.1 = x := by omega
          simp only [memGet, h2, if_false]
          exact ihk fun y hy => hk y (List.mem_cons_of_mem _ hy)
      have first : c.1 = d.1 := by
        rcases Nat.lt_trichotomy c.1 d.1 with hlt | heq | hgt
        · have hx := h c.1
          have : ∀ e ∈ d :: n, c.1 < e.1 := by
            intro e he
            rcases List.mem_cons.mp he with rfl | he
            · exact hlt
            · exact Nat.lt_trans hlt (hd.1 e he)
          rw [low _ _ this] at hx
          simp [memGet] at hx
        · exact heq
        · have hx := h d.1
          have : ∀ e ∈ c :: m, d.1 < e.1 := by
            intro e he
            rcases List.mem_cons.mp he with rfl | he
            · exact hgt
            · exact Nat.lt_trans hgt (hc.1 e he)
          rw [low _ _ this] at hx
          simp [memGet] at hx
      have second : c.2 = d.2 := by
        have hx := h c.1
        simp [memGet, first] at hx
        exact hx
      have heads : c = d := Prod.ext first second
      subst heads
      have tails : m = n := by
        refine ih n hc.2 hd.2 fun a => ?_
        by_cases ha : c.1 = a
        · subst ha
          rw [low m _ hc.1, low n _ hd.1]
        · have hx := h a
          simpa [memGet, ha] using hx
      rw [tails]

end Sys2Proof.Machine
end

