-- ==== Sys2Proof/Laws/Exec.lean ====
section
/-! SUPPORT. What each shared operation can do, said once: the reads of IN and OUT, the sequencing of operations, the
block operations, PIXWR, and the step. -/

namespace Sys2Proof.Machine

/-- Sequencing answers a next state only through one. -/
theorem andThen_next (o : Out) (f : State → Out) (t : State) :
    andThen o f = .next t ↔ ∃ s, o = .next s ∧ f s = .next t := by
  cases o <;> simp [andThen]

@[simp] theorem andThen_of_next (s : State) (f : State → Out) : andThen (.next s) f = f s := rfl

@[simp] theorem inBytes_length (s : State) (a n : Nat) : (inBytes s a n).length = n := by simp [inBytes]

/-- A slice of a read is the read of the slice. -/
theorem slice_inBytes (s : State) (a n k m : Nat) (h : k + m ≤ n) :
    slice (inBytes s a n) k m = inBytes s (a + k) m := by
  have e : List.drop k (List.range' a n) = List.range' (a + k) (n - k) := by simp
  have e2 : List.take m (List.range' (a + k) (n - k)) = List.range' (a + k) m := by
    apply List.ext_getElem
    · simp only [List.length_take, List.length_range']
      omega
    · intro i h1 h2
      simp
  simp only [slice, inBytes, ← List.map_drop, ← List.map_take, e, e2]

/-- The read of four bytes, as the little-endian word it is. -/
theorem le_inBytes_four (s : State) (a : Nat) : le (inBytes s a 4) = inWord s a := by
  simp only [inBytes, List.range'_succ, List.range'_zero, List.map_cons, List.map_nil, le, inWord, Nat.add_assoc, Nat.reduceAdd]
  omega

theorem be_inBytes_four (s : State) (a : Nat) : be (inBytes s a 4) = inWordBe s a := by
  simp only [be, inBytes, List.range'_succ, List.range'_zero, List.map_cons, List.map_nil, List.reverse_cons,
    List.reverse_nil, List.nil_append, List.cons_append, le, inWordBe, Nat.add_assoc, Nat.reduceAdd]
  omega

theorem inWord_lt (s : State) (a : Nat) : inWord s a < 2 ^ 32 := by
  have h0 := (readIn s a).isLt
  have h1 := (readIn s (a + 1)).isLt
  have h2 := (readIn s (a + 2)).isLt
  have h3 := (readIn s (a + 3)).isLt
  simp only [inWord]
  omega

theorem inWordBe_lt (s : State) (a : Nat) : inWordBe s a < 2 ^ 32 := by
  have h0 := (readIn s a).isLt
  have h1 := (readIn s (a + 1)).isLt
  have h2 := (readIn s (a + 2)).isLt
  have h3 := (readIn s (a + 3)).isLt
  simp only [inWordBe]
  omega

/-- A header word read from IN. -/
theorem wordAt_inBytes (s : State) (a n k : Nat) (h : k + 4 ≤ n) :
    wordAt (inBytes s a n) k = BitVec.ofNat 32 (inWord s (a + k)) := by
  rw [wordAt, slice_inBytes _ _ _ _ _ h, le_inBytes_four]

/-- Two states whose IN reads alike in a range give the same bytes there. -/
theorem inBytes_congr (s t : State) (a n : Nat) (h : ∀ x, a ≤ x → x < a + n → readIn t x = readIn s x) :
    inBytes t a n = inBytes s a n := by
  simp only [inBytes]
  refine List.map_congr_left fun x hx => ?_
  have hx' := List.mem_range'_1.mp hx
  exact h x hx'.1 hx'.2

theorem readIn_congr (s t : State) (h1 : t.input = s.input) (h2 : t.inEra = s.inEra) (a : Nat) :
    readIn t a = readIn s a := by
  simp only [readIn, h1, h2]

theorem readOut_congr (s t : State) (h1 : t.output = s.output) (h2 : t.outEra = s.outEra) (a : Nat) :
    readOut t a = readOut s a := by
  simp only [readOut, h1, h2]

/-- The first nine bytes are MAGIC exactly when the container level picks UNWRAP (R104 item 1). -/
theorem magicWindow_iff (s : State) :
    slice (magicWindow s) 0 9 = magicBytes s.cfg ↔ BeginsWithMagic s := by
  constructor
  · intro h
    have hl := congrArg List.length h
    simp only [slice, magicWindow, List.drop_zero, List.length_take, inBytes_length, magicBytes_length] at hl
    have h9 : 9 ≤ s.inLen.toNat := by omega
    refine ⟨h9, fun j => ?_⟩
    have hm : min 9 s.inLen.toNat = 9 := by omega
    rw [magicWindow, hm, slice_inBytes _ _ _ _ _ (by omega)] at h
    have hj := congrArg (fun l => l[j.val]?) h
    simpa [inBytes, magicBytes] using hj
  · rintro ⟨h9, h⟩
    have hm : min 9 s.inLen.toNat = 9 := by omega
    rw [magicWindow, hm, slice_inBytes _ _ _ _ _ (by omega)]
    apply List.ext_getElem
    · simp [magicBytes_length]
    · intro j h1 h2
      have hj : j < 9 := by simpa using h1
      simpa [inBytes, magicBytes] using h ⟨j, hj⟩

/-- Every raise, as the frame the claims name. -/
theorem raise_raisedFrom (k : ErrKind) (cause : Byte) (s : State) : RaisedFrom s (raise k cause s) k cause :=
  ⟨rfl, fun _ => rfl⟩

end Sys2Proof.Machine
end

