-- ==== Sys2Proof/Laws/Pixels.lean ====
section
/-! SUPPORT. Where PIXWR writes, and everything it can do (R70, R250, R253). -/

namespace Sys2Proof.Machine

/-- A row-major index names one place. -/
theorem rowMajor_inj (w x y x' y' : Nat) (hx : x < w) (hx' : x' < w) (h : y * w + x = y' * w + x') :
    x = x' ∧ y = y' := by
  have hw : 0 < w := by omega
  have m : (y * w + x) % w = (y' * w + x') % w := by rw [h]
  have d : (y * w + x) / w = (y' * w + x') / w := by rw [h]
  rw [Nat.mul_comm y, Nat.mul_comm y'] at m d
  rw [Nat.mul_add_mod, Nat.mul_add_mod, Nat.mod_eq_of_lt hx, Nat.mod_eq_of_lt hx'] at m
  rw [Nat.mul_add_div hw, Nat.mul_add_div hw, Nat.div_eq_of_lt hx, Nat.div_eq_of_lt hx'] at d
  exact ⟨m, by omega⟩

/-- A row-major index of a place inside the image. -/
theorem rowMajor_lt (w h x y : Nat) (hx : x < w) (hy : y < h) : y * w + x < w * h := by
  have h1 : (y + 1) * w ≤ h * w := Nat.mul_le_mul_right w hy
  rw [Nat.succ_mul] at h1
  rw [Nat.mul_comm w h]
  omega

theorem pixelShown_iff (s : State) (i : Fin 16) :
    pixelShown s i = true ↔ pixelX s i < s.width.toNat ∧ pixelY s i < s.height.toNat := by
  simp [pixelShown]

/-- Every pixel PIXWR writes lies below WIDTH*HEIGHT*4 (R250). -/
theorem pixelAddr_lt (s : State) (i : Fin 16) (h : pixelShown s i = true) :
    pixelAddr s i + 4 ≤ imageBytes s := by
  have hs := (pixelShown_iff s i).mp h
  have := rowMajor_lt _ _ _ _ hs.1 hs.2
  simp only [pixelAddr, imageBytes]
  omega

/-- Two pixels of one block that PIXWR writes have disjoint bytes. -/
theorem pixelAddr_apart (s : State) (i j : Fin 16) (hi : pixelShown s i = true) (hj : pixelShown s j = true)
    (h : i ≠ j) : pixelAddr s i + 4 ≤ pixelAddr s j ∨ pixelAddr s j + 4 ≤ pixelAddr s i := by
  have hi' := (pixelShown_iff s i).mp hi
  have hj' := (pixelShown_iff s j).mp hj
  have hne : pixelY s i * s.width.toNat + pixelX s i ≠ pixelY s j * s.width.toNat + pixelX s j := by
    intro he
    obtain ⟨hx, hy⟩ := rowMajor_inj _ _ _ _ _ hi'.1 hj'.1 he
    simp only [pixelX, pixelY] at hx hy
    exact h (Fin.ext (by omega))
  simp only [pixelAddr]
  omega

/-- What a run of pixel writes does: it completes when every shown pixel fits OUT, keeps the canonical form and the
bound, holds each listed pixel, and leaves every other address. -/
theorem writePixels_spec (s : State) (is : List (Fin 16)) (m : Mem)
    (fits : ∀ i ∈ is, pixelShown s i = true → pixelAddr s i + 4 ≤ s.cfg.outCap) :
    ∃ m', writePixels s is m = some m' ∧ (Mem.wf m = true → Mem.wf m' = true) ∧
      ((∀ c ∈ m, c.1 < s.cfg.outCap) → ∀ c ∈ m', c.1 < s.cfg.outCap) ∧
      (∀ a, (∀ i ∈ is, pixelShown s i = true → a < pixelAddr s i ∨ pixelAddr s i + 4 ≤ a) →
        memGet m' a = memGet m a) ∧
      (is.Nodup → ∀ i ∈ is, pixelShown s i = true → ∀ k (hk : k < 4),
        memGet m' (pixelAddr s i + k) = some ((colourBytes s.pix[i])[k]'(by simpa [colourBytes] using hk))) := by
  induction is generalizing m with
  | nil => exact ⟨m, rfl, id, id, fun _ _ => rfl, fun _ i hi => by simp at hi⟩
  | cons i is ih =>
    have fits' : ∀ j ∈ is, pixelShown s j = true → pixelAddr s j + 4 ≤ s.cfg.outCap :=
      fun j hj => fits j (List.mem_cons_of_mem _ hj)
    by_cases hi : pixelShown s i = true
    · have hf := fits i (List.mem_cons_self ..) hi
      obtain ⟨m', e, w, b, o, r⟩ := ih (memPutAll m (pixelAddr s i) (colourBytes s.pix[i])) fits'
      refine ⟨m', ?_, fun h => w (memPutAll_wf _ _ _ h), fun h => b ?_, ?_, ?_⟩
      · simp only [writePixels, hi, hf, if_true, e]
      · intro c hc
        rcases mem_memPutAll _ _ _ _ hc with hc | hc
        · exact h c hc
        · simp only [colourBytes, List.length_cons, List.length_nil] at hc
          omega
      · intro a ha
        rw [o a fun j hj => ha j (List.mem_cons_of_mem _ hj)]
        refine memGet_memPutAll_other _ _ _ _ ?_
        simpa [colourBytes] using ha i (List.mem_cons_self ..) hi
      · intro hn j hj hs k hk
        have hn' := List.nodup_cons.mp hn
        rcases List.mem_cons.mp hj with rfl | hj
        · rw [o]
          · exact memGet_memPutAll_inside _ _ _ _ (by simpa [colourBytes] using hk)
          · intro l hl hls
            have : l ≠ j := fun h => hn'.1 (h ▸ hl)
            have := pixelAddr_apart s l j hls hs this
            omega
        · exact r hn'.2 j hj hs k hk
    · obtain ⟨m', e, w, b, o, r⟩ := ih m fits'
      refine ⟨m', ?_, w, b, ?_, ?_⟩
      · simp only [writePixels, hi, e]
        rfl
      · exact fun a ha => o a fun j hj => ha j (List.mem_cons_of_mem _ hj)
      · intro hn j hj hs k hk
        rcases List.mem_cons.mp hj with rfl | hj
        · exact absurd hs hi
        · exact r (List.nodup_cons.mp hn).2 j hj hs k hk

/-- Everything PIXWR does when the image fits OUT and there is a grid (R250). -/
theorem exec_pixwr_spec (s : State) (hw : s.bw ≠ 0) (hc : imageBytes s ≤ s.cfg.outCap) :
    ∃ m, exec .pixwr s = .next { s with output := m } ∧
      (Mem.wf s.output = true → Mem.wf m = true) ∧
      ((∀ c ∈ s.output, c.1 < s.cfg.outCap) → ∀ c ∈ m, c.1 < s.cfg.outCap) ∧
      (∀ a, (∀ i : Fin 16, pixelShown s i = true → a < pixelAddr s i ∨ pixelAddr s i + 4 ≤ a) →
        memGet m a = memGet s.output a) ∧
      (∀ i : Fin 16, pixelShown s i = true → HoldsPixel { s with output := m } (pixelAddr s i) s.pix[i]) := by
  have fits : ∀ i ∈ List.finRange 16, pixelShown s i = true → pixelAddr s i + 4 ≤ s.cfg.outCap :=
    fun i _ hi => Nat.le_trans (pixelAddr_lt s i hi) hc
  obtain ⟨m, e, w, b, o, r⟩ := writePixels_spec s (List.finRange 16) s.output fits
  refine ⟨m, ?_, w, b, fun a h => o a fun i _ => h i, fun i hi => ?_⟩
  · simp only [exec, execPixwr, hw, if_false, e]
  · have := r (List.nodup_finRange 16) i (List.mem_finRange i) hi
    refine ⟨?_, ?_, ?_, ?_⟩
    · have h0 := this 0 (by omega)
      rw [Nat.add_zero] at h0
      simp only [readOut, h0]; rfl
    · simp only [readOut, this 1 (by omega)]; rfl
    · simp only [readOut, this 2 (by omega)]; rfl
    · simp only [readOut, this 3 (by omega)]; rfl

/-- A shown pixel that is not below OUT_CAP has no write (R61). -/
theorem writePixels_none (s : State) (i : Fin 16) (hs : pixelShown s i = true) (hc : s.cfg.outCap < pixelAddr s i + 4) :
    ∀ (l : List (Fin 16)) (m : Mem), i ∈ l → writePixels s l m = none := by
  intro l
  induction l with
  | nil => exact fun m h => absurd h List.not_mem_nil
  | cons j l ih =>
    intro m h
    simp only [writePixels]
    split
    · split
      · apply ih
        rcases List.mem_cons.1 h with rfl | h
        · omega
        · exact h
      · rfl
    · rename_i hj
      apply ih
      rcases List.mem_cons.1 h with rfl | h
      · exact absurd hs hj
      · exact h

end Sys2Proof.Machine
end

