-- ==== Sys2Proof/Laws/Block.lean ====
section
/-! SUPPORT. What a block operation does: it completes, fills every pixel from the block alone, and writes only the
datapath (R247 to R249, R255). -/

namespace Sys2Proof.Machine

theorem OnlyDatapath.refl (s : State) : OnlyDatapath s s := rfl

theorem OnlyDatapath.trans {s t u : State} (h1 : OnlyDatapath s t) (h2 : OnlyDatapath t u) : OnlyDatapath s u := by
  unfold OnlyDatapath at *
  rw [h2, h1]

/-- A state that differs in the datapath alone holds the same bytes. -/
theorem OnlyDatapath.sameBytes {s t : State} (h : OnlyDatapath s t) : SameBytes s t := by
  unfold OnlyDatapath at h
  intro a
  rw [h]
  exact ⟨rfl, rfl⟩

theorem expandInto_onlyDatapath (e : Endpoint) (s : State) : OnlyDatapath s (expandInto e s) := by
  cases e <;> rfl

@[simp] theorem lookupColours_pix (s : State) (i : Fin 16) :
    (lookupColours s).pix[i] = s.cpal[(ci s.cidx i.val).toNat] := by
  simp [lookupColours]

@[simp] theorem setAlphas_pix (f : Fin 16 → Byte) (s : State) (i : Fin 16) :
    (setAlphas f s).pix[i] = { s.pix[i] with a := f i } := by
  simp [setAlphas]

theorem latchColour_onlyDatapath (c0 c1 : Half) (cidx : Word) (s : State) :
    OnlyDatapath s (latchColour c0 c1 cidx s) := rfl

theorem expandPair_onlyDatapath (s : State) : OnlyDatapath s (expandPair s) :=
  (expandInto_onlyDatapath .e0 s).trans (expandInto_onlyDatapath .e1 _)

theorem buildPalette4_onlyDatapath (s : State) : OnlyDatapath s (buildPalette4 s) := rfl

theorem buildPalette3_onlyDatapath (s : State) : OnlyDatapath s (buildPalette3 s) := rfl

theorem lookupColours_onlyDatapath (s : State) : OnlyDatapath s (lookupColours s) := rfl

theorem setAlphas_onlyDatapath (f : Fin 16 → Byte) (s : State) : OnlyDatapath s (setAlphas f s) := rfl

theorem alphaHalf_onlyDatapath (a0 a1 : Byte) (aidx : BitVec 48) (s : State) :
    OnlyDatapath s (alphaHalf a0 a1 aidx s) := by
  unfold alphaHalf
  split <;> rfl

theorem colourHalf_onlyDatapath (c0 c1 : Half) (cidx : Word) (s : State) :
    OnlyDatapath s (colourHalf c0 c1 cidx s) :=
  (((latchColour_onlyDatapath c0 c1 cidx s).trans (expandPair_onlyDatapath _)).trans
    (buildPalette4_onlyDatapath _)).trans (lookupColours_onlyDatapath _)

/-- CPAL4 after the endpoints' expansion: the palette of the two packed words. -/
theorem palette_of_latch4 (c0 c1 : Half) (cidx : Word) (s : State) :
    (buildPalette4 (expandPair (latchColour c0 c1 cidx s))).cpal = palette4 (expand565 c0) (expand565 c1) := rfl

theorem palette_of_latch3 (c0 c1 : Half) (cidx : Word) (s : State) :
    (buildPalette3 (expandPair (latchColour c0 c1 cidx s))).cpal = palette3 (expand565 c0) (expand565 c1) := rfl

theorem cidx_of_latch4 (c0 c1 : Half) (cidx : Word) (s : State) :
    (buildPalette4 (expandPair (latchColour c0 c1 cidx s))).cidx = cidx := rfl

theorem cidx_of_latch3 (c0 c1 : Half) (cidx : Word) (s : State) :
    (buildPalette3 (expandPair (latchColour c0 c1 cidx s))).cidx = cidx := rfl

/-- The colours of variants 2 and 3 (R218). -/
theorem colourHalf_pix (v : Variant) (hv : v ≠ .dxt1) (c0 c1 : Half) (cidx : Word) (s : State) (i : Fin 16) :
    (colourHalf c0 c1 cidx s).pix[i] = colourOf v c0 c1 cidx i := by
  have hm : colourMode3 v c0 c1 = false := by simp [colourMode3, hv]
  rw [colourHalf, lookupColours_pix, colourOf]
  simp only [palette_of_latch4, cidx_of_latch4, hm]
  rfl

@[simp] theorem colourHalf_aexp (c0 c1 : Half) (cidx : Word) (s : State) :
    (colourHalf c0 c1 cidx s).aexp = s.aexp := by
  simp [colourHalf, expandPair, expandInto]

@[simp] theorem colourHalf_aidx (c0 c1 : Half) (cidx : Word) (s : State) :
    (colourHalf c0 c1 cidx s).aidx = s.aidx := by
  simp [colourHalf, expandPair, expandInto]

@[simp] theorem colourHalf_apal (c0 c1 : Half) (cidx : Word) (s : State) :
    (colourHalf c0 c1 cidx s).apal = s.apal := by
  simp [colourHalf, expandPair, expandInto]

theorem dec1_spec (c0 c1 : Half) (cidx : Word) (s : State) :
    ∃ t, exec (.decDxt1 c0 c1 cidx) s = .next t ∧ OnlyDatapath s t ∧
      ∀ i : Fin 16, t.pix[i] = colourOf .dxt1 c0 c1 cidx i := by
  have lead := (latchColour_onlyDatapath c0 c1 cidx s).trans (expandPair_onlyDatapath _)
  simp only [exec, execDecDxt1]
  by_cases h : colourMode3 .dxt1 c0 c1 = true
  · rw [if_pos h]
    refine ⟨_, rfl, (lead.trans (buildPalette3_onlyDatapath _)).trans (lookupColours_onlyDatapath _), fun i => ?_⟩
    rw [lookupColours_pix, colourOf]
    simp only [palette_of_latch3, cidx_of_latch3, h, if_true]
  · rw [if_neg h]
    refine ⟨_, rfl, (lead.trans (buildPalette4_onlyDatapath _)).trans (lookupColours_onlyDatapath _), fun i => ?_⟩
    rw [lookupColours_pix, colourOf]
    simp only [palette_of_latch4, cidx_of_latch4, h]
    rfl

theorem dec3_spec (aexp : Long) (c0 c1 : Half) (cidx : Word) (s : State) :
    ∃ t, exec (.decDxt3 aexp c0 c1 cidx) s = .next t ∧ OnlyDatapath s t ∧
      ∀ i : Fin 16, t.pix[i] =
        { colourOf .dxt3 c0 c1 cidx i with a := BitVec.ofNat 8 ((ea aexp i.val).toNat * 17) } := by
  have latch : OnlyDatapath s { s with aexp := aexp } := rfl
  refine ⟨_, rfl, (latch.trans (colourHalf_onlyDatapath c0 c1 cidx _)).trans (setAlphas_onlyDatapath _ _), fun i => ?_⟩
  rw [expandSharp, setAlphas_pix, colourHalf_pix .dxt3 (by decide), colourHalf_aexp]

/-- The alpha palette and indices of variant 3 (R214). -/
theorem alphaHalf_lookup (a0 a1 : Byte) (aidx : BitVec 48) (s : State) (i : Fin 16) :
    (alphaHalf a0 a1 aidx s).apal[(ai (alphaHalf a0 a1 aidx s).aidx i.val).toNat] = alphaOf a0 a1 aidx i := by
  unfold alphaHalf alphaOf
  split <;> rfl

theorem dec5_spec (a0 a1 : Byte) (aidx : BitVec 48) (c0 c1 : Half) (cidx : Word) (s : State) :
    ∃ t, exec (.decDxt5 a0 a1 aidx c0 c1 cidx) s = .next t ∧ OnlyDatapath s t ∧
      ∀ i : Fin 16, t.pix[i] = { colourOf .dxt5 c0 c1 cidx i with a := alphaOf a0 a1 aidx i } := by
  refine ⟨_, rfl, ((alphaHalf_onlyDatapath a0 a1 aidx s).trans (colourHalf_onlyDatapath c0 c1 cidx _)).trans
    (setAlphas_onlyDatapath _ _), fun i => ?_⟩
  rw [lookupAlphas, setAlphas_pix, colourHalf_pix .dxt5 (by decide)]
  simp only [colourHalf_apal, colourHalf_aidx, alphaHalf_lookup]

/-- Every block of at least its variant's length decodes, and its operation fills PIX from it (R109). -/
theorem block_spec (c : Config) (v : Variant) (bs : List Byte) (s : State) (hv : v ≠ .unset)
    (hl : blockBytes v ≤ bs.length) :
    ∃ i t, decode c (.block v) bs = .ok i ∧ exec i s = .next t ∧ OnlyDatapath s t ∧
      ∀ j : Fin 16, t.pix[j] = blockPixel v bs j := by
  cases v with
  | unset => exact absurd rfl hv
  | dxt1 =>
    obtain ⟨t, h⟩ := dec1_spec (halfAt bs 0) (halfAt bs 2) (wordAt bs 4) s
    refine ⟨_, t, ?_, h.1, h.2.1, h.2.2⟩
    simp only [blockBytes] at hl
    simp [decode, decodeBlock, Nat.not_lt.mpr hl]
  | dxt3 =>
    obtain ⟨t, h⟩ := dec3_spec (longAt bs 0) (halfAt bs 8) (halfAt bs 10) (wordAt bs 12) s
    refine ⟨_, t, ?_, h.1, h.2.1, h.2.2⟩
    simp only [blockBytes] at hl
    simp [decode, decodeBlock, Nat.not_lt.mpr hl]
  | dxt5 =>
    obtain ⟨t, h⟩ := dec5_spec (byteAt bs 0) (byteAt bs 1) (aidxAt bs 2) (halfAt bs 8) (halfAt bs 10)
      (wordAt bs 12) s
    refine ⟨_, t, ?_, h.1, h.2.1, h.2.2⟩
    simp only [blockBytes] at hl
    simp [decode, decodeBlock, Nat.not_lt.mpr hl]

end Sys2Proof.Machine
end

