-- ==== Sys2Proof/Laws/Step.lean ====
section
/-! SUPPORT. What one step can do, said once: the sequencer's phases, each with every outcome it has. -/

namespace Sys2Proof.Machine

/-- A run of n + 1 steps whose first step has this next state. -/
theorem run_succ (n : Nat) (s t : State) (h : step s = .next t) :
    Host.Core.run Sys2Proof.core (n + 1) s = Host.Core.run Sys2Proof.core n t := by
  have h' : Sys2Proof.core.step s = .next t := h
  simp only [Host.Core.run, h']

/-- With no host move pending the step is the sequencer's. -/
theorem step_quiet (s : State) (q : Quiet s) : step s = seqStep s := by
  simp [step, turn, q.1, q.2]

/-- With OUT its own and a host move pending, the step is that move. -/
theorem step_move (s : State) (m : HostMove) (rest : List HostMove) (h : s.cfg.outShared = false)
    (hi : s.inbox = m :: rest) : step s = hostMove m { s with inbox := rest } := by
  simp [step, turn, h, hi]

/-- Every outcome of a step whose OUT is shared (R82, R280, R300). -/
theorem step_shared (s : State) (h : s.cfg.outShared = true) :
    (∃ rest, s.inbox = .reset :: rest ∧ step s = .next (resetKeeping { s with inbox := rest })) ∨
    (∀ rest, s.inbox ≠ .reset :: rest) ∧
      (s.refused = some .sharedOut ∧ step s = .refused (.unmeant .sharedOut) ∨
        s.refused ≠ some .sharedOut ∧ step s = .next (refuse .sharedOut s)) := by
  simp only [step, turn, h, if_true, sharedTurn]
  split
  · rename_i rest e
    exact Or.inl ⟨rest, e, rfl⟩
  · rename_i hn
    refine Or.inr ⟨hn, ?_⟩
    split
    · exact Or.inl ⟨‹_›, rfl⟩
    · exact Or.inr ⟨‹_›, rfl⟩

/-! The phase picks the sequencer's step (R240). -/

theorem seqStep_waiting (s : State) (h : s.phase.busy = false) : seqStep s = .next s := by
  unfold seqStep
  split <;> rename_i e <;> first | rfl | (rw [e] at h; cases h)

theorem seqStep_unwrap (s : State) (h : s.phase = .unwrap) : seqStep s = unwrapStep s := by
  unfold seqStep
  rw [h]

theorem seqStep_parse (s : State) (h : s.phase = .parse) : seqStep s = exec .parseHdr s := by
  unfold seqStep
  rw [h]

/-- In PARSE the step is PARSE_HDR, whatever the stream begins with (R243). -/
theorem step_parse (s : State) (q : Quiet s) (h : s.phase = .parse) : step s = exec .parseHdr s := by
  rw [step_quiet s q, seqStep_parse s h]

theorem seqStep_check (s : State) (h : s.phase = .check) (hr : s.refused ≠ some .outCap) :
    seqStep s = checkStep s := by
  unfold seqStep
  rw [h]
  exact if_neg hr

theorem seqStep_refused (s : State) (h : s.phase = .check) (hr : s.refused = some .outCap) :
    seqStep s = .refused (.unmeant .outCap) := by
  unfold seqStep
  rw [h]
  exact if_pos hr

theorem seqStep_decode (s : State) (h : s.phase = .decode) : seqStep s = decodeStep s := by
  unfold seqStep
  rw [h]

theorem containerOp_eq (s : State) :
    (BeginsWithMagic s → containerOp s.cfg (magicWindow s) = .unwrap) ∧
      (¬ BeginsWithMagic s → containerOp s.cfg (magicWindow s) = .passthru) := by
  constructor
  · intro h
    rw [containerOp, if_pos ((magicWindow_iff s).mpr h)]
  · intro h
    rw [containerOp, if_neg fun e => h ((magicWindow_iff s).mp e)]

/-- Every outcome of UNWRAP: an error of the container, or PARSE at BASE 20 (R131). -/
theorem exec_unwrap_cases (s : State) :
    (∃ cause : Byte, 1 ≤ cause.toNat ∧ cause.toNat ≤ 3 ∧
      (exec .unwrap s = .next (raise .formatError cause { s with wrapped := true }) ∨
        exec .unwrap s = .next (raise .formatError cause (latchSize { s with wrapped := true })))) ∨
    20 ≤ s.inLen.toNat ∧
      exec .unwrap s = .next { latchSize { s with wrapped := true } with base := 20, phase := .parse } := by
  simp only [exec, execUnwrap]
  split
  · exact Or.inl ⟨1, by decide, by decide, Or.inl rfl⟩
  · split
    · exact Or.inl ⟨2, by decide, by decide, Or.inr rfl⟩
    · split
      · exact Or.inl ⟨3, by decide, by decide, Or.inr rfl⟩
      · rename_i h _ _
        exact Or.inr ⟨by simpa [contLen] using h, rfl⟩

/-- Every outcome of the field checks: an error, or CHECK with a variant and its grid (R151, R155, R158 to R163). -/
theorem parseFields_cases (s : State) :
    (∃ k cause, listedErr ⟨k, cause⟩ = true ∧ k ≠ .none ∧ parseFields s = raise k cause s) ∨
    ∃ v, v ≠ .unset ∧ s.width ≠ 0 ∧ s.height ≠ 0 ∧
      parseFields s = { setGrid (setVariant v s) with phase := .check } := by
  unfold parseFields
  split
  · exact Or.inl ⟨_, _, rfl, by decide, rfl⟩
  · split
    · exact Or.inl ⟨_, _, rfl, by decide, rfl⟩
    · split
      · exact Or.inl ⟨_, _, rfl, by decide, rfl⟩
      · rename_i hw hh _
        split
        · exact Or.inr ⟨.dxt1, by decide, hw, hh, rfl⟩
        · exact Or.inr ⟨.dxt3, by decide, hw, hh, rfl⟩
        · exact Or.inr ⟨.dxt5, by decide, hw, hh, rfl⟩
        · exact Or.inl ⟨_, _, rfl, by decide, rfl⟩

/-- Every outcome of PARSE_HDR. -/
theorem exec_parseHdr_cases (s : State) :
    (∃ cause : Byte, listedErr ⟨.formatError, cause⟩ = true ∧
      exec .parseHdr s = .next (raise .formatError cause s)) ∨
    128 ≤ streamLen s ∧ exec .parseHdr s = .next (parseFields (latchHeader s)) := by
  simp only [exec, execParseHdr]
  split
  · exact Or.inl ⟨_, rfl, rfl⟩
  · split
    · exact Or.inl ⟨_, rfl, rfl⟩
    · rename_i h
      exact Or.inr ⟨by simpa [texLen] using h, rfl⟩

theorem exec_truncChk_eq (s : State) :
    exec .truncChk s = if s.inLen.toNat < needed s then .next (raise .truncatedDataError 0x0A s) else .next s := rfl

theorem exec_capChk_eq (s : State) :
    exec .capChk s = if s.cfg.outCap < imageBytes s then .next (refuse .outCap s) else .next s := rfl

/-- Every outcome of the CHECK phase (R244). -/
theorem checkStep_cases (s : State) (hp : s.phase = .check) (hr : s.refused ≠ some .outCap) :
    s.inLen.toNat < needed s ∧ checkStep s = .next (raise .truncatedDataError 0x0A s) ∨
    needed s ≤ s.inLen.toNat ∧ s.cfg.outCap < imageBytes s ∧ checkStep s = .next (refuse .outCap s) ∨
    needed s ≤ s.inLen.toNat ∧ imageBytes s ≤ s.cfg.outCap ∧ checkStep s = .next (enterDecode s) := by
  by_cases h1 : s.inLen.toNat < needed s
  · exact Or.inl ⟨h1, by simp [checkStep, exec_truncChk_eq, h1]⟩
  · have h1' : needed s ≤ s.inLen.toNat := by omega
    by_cases h2 : s.cfg.outCap < imageBytes s
    · refine Or.inr (Or.inl ⟨h1', h2, ?_⟩)
      simp [checkStep, exec_truncChk_eq, exec_capChk_eq, h1, h2, hp]
    · refine Or.inr (Or.inr ⟨h1', by omega, ?_⟩)
      simp [checkStep, exec_truncChk_eq, exec_capChk_eq, h1, h2, hp, hr]

/-- The grid of an image with both dimensions has a block (R244). -/
theorem nblk_pos (s : State) (g : GridReady s) : 0 < s.nblk.toNat := by
  have hw : 0 < s.width.toNat := Nat.pos_of_ne_zero fun h => g.width (BitVec.eq_of_toNat_eq h)
  have hh : 0 < s.height.toNat := Nat.pos_of_ne_zero fun h => g.height (BitVec.eq_of_toNat_eq h)
  rw [g.nblk]
  exact Nat.mul_pos (by unfold ceil4; omega) (by unfold ceil4; omega)

theorem bw_ne_zero (s : State) (g : GridReady s) : s.bw ≠ 0 := by
  have hw : 0 < s.width.toNat := Nat.pos_of_ne_zero fun h => g.width (BitVec.eq_of_toNat_eq h)
  intro h
  have := g.bw
  rw [h] at this
  simp only [ceil4] at this
  have h0 : (0 : Word).toNat = 0 := rfl
  omega

/-- The grid's counts do not wrap (R33, R158). -/
theorem setGrid_counts (s : State) :
    (setGrid s).bw.toNat = ceil4 s.width.toNat ∧ (setGrid s).bh.toNat = ceil4 s.height.toNat ∧
      (setGrid s).nblk.toNat = ceil4 s.width.toNat * ceil4 s.height.toNat ∧
      ceil4 s.width.toNat ≤ 2 ^ 30 ∧ ceil4 s.height.toNat ≤ 2 ^ 30 ∧
      ceil4 s.width.toNat * ceil4 s.height.toNat ≤ 2 ^ 60 := by
  have hw := s.width.isLt
  have hh := s.height.isLt
  have w30 : ceil4 s.width.toNat ≤ 2 ^ 30 := by unfold ceil4; omega
  have h30 : ceil4 s.height.toNat ≤ 2 ^ 30 := by unfold ceil4; omega
  have hm : ceil4 s.width.toNat * ceil4 s.height.toNat ≤ 2 ^ 30 * 2 ^ 30 := Nat.mul_le_mul w30 h30
  simp only [setGrid, BitVec.toNat_ofNat]
  refine ⟨Nat.mod_eq_of_lt (by omega), Nat.mod_eq_of_lt (by omega), Nat.mod_eq_of_lt (by omega), w30, h30, by omega⟩

/-- A block of the grid that CHECK has found in the input is read whole (R63). -/
theorem fetchBlock_eq (s : State) (b : BlocksReady s) (h : s.blk.toNat < s.nblk.toNat) :
    fetchBlock s = some (blockBytesAt s s.blk.toNat) := by
  have hi := b.inputs
  have hm : (s.blk.toNat + 1) * s.bsize.toNat ≤ s.nblk.toNat * s.bsize.toNat := Nat.mul_le_mul_right _ h
  rw [Nat.succ_mul] at hm
  simp only [needed] at hi
  have hb : blockAddr s + s.bsize.toNat ≤ s.inLen.toNat := by
    simp only [blockAddr]
    omega
  simp only [fetchBlock, memRead, hb, if_true]
  rfl

theorem exec_advance_eq (s : State) :
    exec .advance s = if s.blk + 1 = s.nblk then .next { s with blk := s.blk + 1, phase := .done }
      else .next { s with blk := s.blk + 1 } := rfl

/-- The image's addresses come from fields the datapath is no part of. -/
theorem OnlyDatapath.pixels {s t : State} (h : OnlyDatapath s t) (i : Fin 16) :
    pixelShown t i = pixelShown s i ∧ pixelAddr t i = pixelAddr s i := by
  unfold OnlyDatapath at h
  rw [h]
  exact ⟨rfl, rfl⟩

/-- Everything a DECODE step does in a run (R245). -/
theorem decodeStep_spec (s : State) (g : GridReady s) (b : BlocksReady s) (hz : s.bsize.toNat = blockBytes s.variant)
    (hk : s.blk.toNat < s.nblk.toNat) (hp : s.phase = .decode) :
    ∃ (d : State) (m : Mem), OnlyDatapath s d ∧
      decodeStep s = .next { d with
        output := m, blk := s.blk + 1, phase := if s.blk + 1 = s.nblk then .done else .decode } ∧
      (Mem.wf s.output = true → Mem.wf m = true) ∧
      ((∀ c ∈ s.output, c.1 < s.cfg.outCap) → ∀ c ∈ m, c.1 < s.cfg.outCap) ∧
      (∀ a, (∀ i : Fin 16, pixelShown s i = true → a < pixelAddr s i ∨ pixelAddr s i + 4 ≤ a) →
        memGet m a = memGet s.output a) ∧
      (∀ i : Fin 16, pixelShown s i = true →
        HoldsPixel { s with output := m } (pixelAddr s i) (blockPixel s.variant (blockBytesAt s s.blk.toNat) i)) := by
  have hl : blockBytes s.variant ≤ (blockBytesAt s s.blk.toNat).length :=
    Nat.le_of_eq (by rw [blockBytesAt, inBytes_length, hz])
  obtain ⟨i, d, hd, he, ho, hpix⟩ := block_spec s.cfg s.variant _ s g.variant hl
  have fld : d.bw = s.bw ∧ d.cfg = s.cfg ∧ imageBytes d = imageBytes s ∧ d.output = s.output ∧ d.blk = s.blk ∧
      d.nblk = s.nblk ∧ d.phase = s.phase ∧ d.outEra = s.outEra := by
    have h := ho
    unfold OnlyDatapath at h
    rw [h]
    exact ⟨rfl, rfl, rfl, rfl, rfl, rfl, rfl, rfl⟩
  obtain ⟨f1, f2, f3, f4, f5, f6, f7, f8⟩ := fld
  obtain ⟨m, e, w, bd, o, r⟩ := exec_pixwr_spec d (by rw [f1]; exact bw_ne_zero s g)
    (by rw [f2, f3]; exact b.image)
  refine ⟨d, m, ho, ?_, by rw [← f4]; exact w, by rw [← f4, ← f2]; exact bd, ?_, ?_⟩
  · simp only [decodeStep, fetchBlock_eq s b hk, hd, he, andThen_of_next, e, exec_advance_eq, f5, f6]
    split
    · rfl
    · rename_i hne
      rw [← hp, ← f7]
  · intro a ha
    rw [o a fun j hj => ?_, f4]
    rw [(ho.pixels j).2]
    exact ha j (by rw [← (ho.pixels j).1]; exact hj)
  · intro j hj
    have := r j (by rw [(ho.pixels j).1]; exact hj)
    rw [(ho.pixels j).2, hpix j] at this
    simpa only [HoldsPixel, readOut, f8] using this

end Sys2Proof.Machine
end

