-- ==== Sys2Proof/Laws/Header.lean ====
section
/-! SUPPORT. The header checks of UNWRAP and PARSE_HDR, in the terms of Safety.lean: the bytes of IN (R134 to R136, R152,
R154, R105). -/

namespace Sys2Proof.Machine

theorem padOk_iff (s : State) : padOk s = true ↔ PaddingRight s := by
  simp [padOk, PaddingRight, inBytes, List.range'_succ]

theorem tagOk_iff (s : State) : tagOk s = true ↔ TagRight s := by
  simp only [tagOk, beq_iff_eq]
  constructor
  · intro h j
    have hj := congrArg (fun l => l[j.val]?) h
    simpa [inBytes, tagBytes] using hj
  · intro h
    apply List.ext_getElem
    · simp [tagBytes_length]
    · intro j h1 h2
      have hj : j < 4 := by simpa using h1
      simpa [inBytes, tagBytes] using h ⟨j, hj⟩

/-- The latch of the size field, with the cross-check as a sum that does not wrap (R136). -/
theorem latchSize_eq (s : State) (h : 20 ≤ s.inLen.toNat) :
    latchSize s = { s with
      sizeField := BitVec.ofNat 32 (inWordBe s 12)
      sizeMatch := decide (inWordBe s 12 + 1 + 20 = s.inLen.toNat) } := by
  have l := inWordBe_lt s 12
  have m : sizeMatches (BitVec.ofNat 32 (inWordBe s 12)) s.inLen =
      decide (inWordBe s 12 + 1 + 20 = s.inLen.toNat) := by
    simp only [sizeMatches, BitVec.toNat_ofNat, Nat.mod_eq_of_lt l, contLen]
    rw [Bool.eq_iff_iff]
    simp only [beq_iff_eq, decide_eq_true_eq]
    omega
  simp only [latchSize, be_inBytes_four, m]

theorem signatureBad_iff (s : State) : signatureBad s = false ↔ BeginsWithSignature s := by
  have e : wordAt (inBytes s s.base.toNat 4) 0 = BitVec.ofNat 32 (inWord s s.base.toNat) :=
    wordAt_inBytes s _ 4 0 (by omega)
  have l := inWord_lt s s.base.toNat
  simp only [signatureBad, e, BeginsWithSignature, Bool.or_eq_false_iff, decide_eq_false_iff_not,
    bne_eq_false_iff_eq, Fmt.signature]
  constructor
  · rintro ⟨h1, h2⟩
    have h3 := congrArg BitVec.toNat h2
    rw [BitVec.toNat_ofNat, Nat.mod_eq_of_lt l] at h3
    exact ⟨by omega, h3⟩
  · rintro ⟨h1, h2⟩
    exact ⟨by omega, by rw [h2]⟩

/-- The field latch, from the bytes of IN (R154). -/
theorem latchHeader_eq (s : State) : latchHeader s = withHeader s := by
  simp only [latchHeader, withHeader, texLen]
  rw [wordAt_inBytes _ _ _ _ (by omega), wordAt_inBytes _ _ _ _ (by omega), wordAt_inBytes _ _ _ _ (by omega),
    wordAt_inBytes _ _ _ _ (by omega), wordAt_inBytes _ _ _ _ (by omega)]

/-- A header with both dimensions and a supported variant (R105, R151). -/
theorem parseFields_supported (h : State) (v : Variant) (h1 : h.width ≠ 0) (h2 : h.height ≠ 0) (hv : v ≠ .unset)
    (e : variantOf h.pfFlags h.fourcc = v) : parseFields h = { setGrid (setVariant v h) with phase := .check } := by
  have hf : Fmt.hasFourcc h.pfFlags = true := by
    cases hc : Fmt.hasFourcc h.pfFlags
    · rw [variantOf, hc] at e
      exact absurd e.symm hv
    · rfl
  unfold parseFields
  rw [if_neg h1, if_neg h2, hf, e]
  cases v
  · exact absurd rfl hv
  · rfl
  · rfl
  · rfl

end Sys2Proof.Machine
end

