-- ==== Sys2Proof/Laws/Inv.lean ====
section
/-! SUPPORT. Which fields the invariant of Safety.lean reads: a state that agrees on them keeps it. -/

namespace Sys2Proof.Machine

/-- t agrees with s but for the datapath, IN, OUT, the eras and the host's own fields. -/
def SameControl (s t : State) : Prop :=
  t = { s with
    c0 := t.c0, c1 := t.c1, e0 := t.e0, e1 := t.e1, cpal := t.cpal, cidx := t.cidx, mode3 := t.mode3
    a0 := t.a0, a1 := t.a1, aidx := t.aidx, aexp := t.aexp, apal := t.apal, amode6 := t.amode6, pix := t.pix
    input := t.input, output := t.output, inEra := t.inEra, outEra := t.outEra, draws := t.draws
    inbox := t.inbox, hostData := t.hostData }

theorem SameControl.containerClear {s t : State} (e : SameControl s t) (h : ContainerClear s) : ContainerClear t := by
  rw [e]
  exact ⟨h.1, h.2, h.3, h.4⟩

theorem SameControl.headerClear {s t : State} (e : SameControl s t) (h : HeaderClear s) : HeaderClear t := by
  rw [e]
  exact ⟨h.1, h.2, h.3, h.4, h.5, h.6, h.7, h.8, h.9, h.10⟩

theorem SameControl.gridReady {s t : State} (e : SameControl s t) (h : GridReady s) : GridReady t := by
  rw [e]
  exact ⟨h.1, h.2, h.3, h.4, h.5, h.6⟩

theorem SameControl.blocksReady {s t : State} (e : SameControl s t) (h : BlocksReady s) : BlocksReady t := by
  rw [e]
  exact ⟨h.1, h.2⟩

theorem OnlyDatapath.sameControl {s t : State} (h : OnlyDatapath s t) : SameControl s t := by
  unfold OnlyDatapath at h
  unfold SameControl
  rw [h]

/-- A state that agrees on every control field keeps the invariant, if its IN and OUT are in form. -/
theorem SameControl.inv {s t : State} (e : SameControl s t) (h : Inv s) (i1 : Mem.wf t.input = true)
    (o1 : Mem.wf t.output = true) (i2 : ∀ c ∈ t.input, c.1 < s.cfg.inMax.toNat)
    (o2 : ∀ c ∈ t.output, c.1 < s.cfg.outCap) : Inv t := by
  have cc := fun x => e.containerClear x
  have hc := fun x => e.headerClear x
  have gr := fun x => e.gridReady x
  have br := fun x => e.blocksReady x
  have f : t.cfg = s.cfg ∧ t.phase = s.phase ∧ t.err = s.err ∧ t.inLen = s.inLen ∧ t.wrapped = s.wrapped ∧
      t.sizeMatch = s.sizeMatch ∧ t.base = s.base ∧ t.variant = s.variant ∧ t.bsize = s.bsize ∧
      t.nblk = s.nblk ∧ t.blk = s.blk ∧ t.refused = s.refused ∧ imageBytes t = imageBytes s := by
    rw [e]
    exact ⟨rfl, rfl, rfl, rfl, rfl, rfl, rfl, rfl, rfl, rfl, rfl, rfl, rfl⟩
  obtain ⟨f1, f2, f3, f4, f5, f6, f7, f8, f9, f10, f11, f12, f13⟩ := f
  constructor
  · exact i1
  · exact o1
  · rw [f1]; exact i2
  · rw [f1]; exact o2
  · rw [f3]; exact h.errListed
  · rw [f3, f2]; exact h.errPhase
  · rw [f7]; exact h.baseLegal
  · rw [f6, f5]; exact h.sizeFlag
  · rw [f9, f8]; exact h.blockSize
  · rw [f2, f4, f1, f7]; exact h.busyInLen
  · rw [f2]; exact fun p => ⟨cc (h.idleClear p).1, hc (h.idleClear p).2⟩
  · rw [f2]; exact fun p => ⟨cc (h.unwrapClear p).1, hc (h.unwrapClear p).2⟩
  · rw [f2]; exact fun p => hc (h.parseClear p)
  · rw [f2, f11]; exact fun p => ⟨gr (h.checkReady p).1, (h.checkReady p).2⟩
  · rw [f2, f11, f10]
    exact fun p => ⟨gr (h.decodeReady p).1, br (h.decodeReady p).2.1, (h.decodeReady p).2.2⟩
  · rw [f12, f2]; exact h.capMark
  · rw [f2, f11, f10, f13, f1]
    exact fun p => ⟨gr (h.doneReady p).1, (h.doneReady p).2⟩

end Sys2Proof.Machine
end

