-- ==== Sys2Proof/Laws/PerInstr.lean ====
section
/-! SUPPORT. Statements made of each operation as syntax. EncodeLength: how many bytes its encoding has. -/

namespace Sys2Proof.Laws.EncodeLength

/-- The bytes the place of each operation reads to pick it: a CTRL word, MAGIC, the signature, PF_FLAGS and FOURCC, a
block, the two endpoints, the two alpha endpoints, or none where the place alone picks it (R90, R104 to R106). -/
def bytesOf : Instr → Nat
  | .start _ => 4
  | .unwrap => 9
  | .passthru => 0
  | .parseHdr => 4
  | .selDxt1 _ => 8
  | .selDxt3 _ => 8
  | .selDxt5 _ => 8
  | .selUnsupFourcc _ _ => 8
  | .selUnsupNofourcc _ _ => 8
  | .grid => 0
  | .truncChk => 0
  | .capChk => 0
  | .decDxt1 _ _ _ => 8
  | .decDxt3 _ _ _ _ => 16
  | .decDxt5 _ _ _ _ _ _ => 16
  | .exp5 _ _ => 0
  | .exp6 _ => 0
  | .exp565 _ => 0
  | .cpal4 => 4
  | .cpal3 => 4
  | .clut => 0
  | .aexpl4 => 0
  | .apal8 => 2
  | .apal6 => 2
  | .alut => 0
  | .pixwr => 0
  | .advance => 0

/-- The encoding of the operation has the length its place reads, whatever the parameters. -/
def Statement (i : Instr) : Prop := ∀ c : Config, (encode c i).length = bytesOf i

theorem start (hi : BitVec 31) : Statement (.start hi) := fun _ => rfl
theorem unwrap : Statement .unwrap := fun c => magicBytes_length c
theorem passthru : Statement .passthru := fun _ => rfl
theorem parseHdr : Statement .parseHdr := fun _ => rfl
theorem selDxt1 (pf : Word) : Statement (.selDxt1 pf) := fun _ => rfl
theorem selDxt3 (pf : Word) : Statement (.selDxt3 pf) := fun _ => rfl
theorem selDxt5 (pf : Word) : Statement (.selDxt5 pf) := fun _ => rfl
theorem selUnsupFourcc (pf fourcc : Word) : Statement (.selUnsupFourcc pf fourcc) := fun _ => rfl
theorem selUnsupNofourcc (pf fourcc : Word) : Statement (.selUnsupNofourcc pf fourcc) := fun _ => rfl
theorem grid : Statement .grid := fun _ => rfl
theorem truncChk : Statement .truncChk := fun _ => rfl
theorem capChk : Statement .capChk := fun _ => rfl
theorem decDxt1 (c0 c1 : Half) (cidx : Word) : Statement (.decDxt1 c0 c1 cidx) := fun _ => rfl
theorem decDxt3 (aexp : Long) (c0 c1 : Half) (cidx : Word) : Statement (.decDxt3 aexp c0 c1 cidx) := fun _ => rfl
theorem decDxt5 (a0 a1 : Byte) (aidx : BitVec 48) (c0 c1 : Half) (cidx : Word) : Statement (.decDxt5 a0 a1 aidx c0 c1 cidx) := fun _ => rfl
theorem exp5 (e : Endpoint) (ch : Chan5) : Statement (.exp5 e ch) := fun _ => rfl
theorem exp6 (e : Endpoint) : Statement (.exp6 e) := fun _ => rfl
theorem exp565 (e : Endpoint) : Statement (.exp565 e) := fun _ => rfl
theorem cpal4 : Statement .cpal4 := fun _ => rfl
theorem cpal3 : Statement .cpal3 := fun _ => rfl
theorem clut : Statement .clut := fun _ => rfl
theorem aexpl4 : Statement .aexpl4 := fun _ => rfl
theorem apal8 : Statement .apal8 := fun _ => rfl
theorem apal6 : Statement .apal6 := fun _ => rfl
theorem alut : Statement .alut := fun _ => rfl
theorem pixwr : Statement .pixwr := fun _ => rfl
theorem advance : Statement .advance := fun _ => rfl

end Sys2Proof.Laws.EncodeLength
end

