-- ==== Sys2Proof/Laws/Reset.lean ====
section
/-! SUPPORT. One lemma for each field of State under a reset (R300) and under the placing of a stream, and the canonical
form of the memories they leave. -/

namespace Sys2Proof.Machine

/-! A reset (R49, R300). -/

@[simp] theorem resetKeeping_cfg (s : State) : (resetKeeping s).cfg = s.cfg := rfl
@[simp] theorem resetKeeping_phase (s : State) : (resetKeeping s).phase = State.reset.phase := rfl
@[simp] theorem resetKeeping_err (s : State) : (resetKeeping s).err = State.reset.err := rfl
@[simp] theorem resetKeeping_inLen (s : State) : (resetKeeping s).inLen = State.reset.inLen := rfl
@[simp] theorem resetKeeping_wrapped (s : State) : (resetKeeping s).wrapped = State.reset.wrapped := rfl
@[simp] theorem resetKeeping_sizeMatch (s : State) : (resetKeeping s).sizeMatch = State.reset.sizeMatch := rfl
@[simp] theorem resetKeeping_sizeField (s : State) : (resetKeeping s).sizeField = State.reset.sizeField := rfl
@[simp] theorem resetKeeping_base (s : State) : (resetKeeping s).base = State.reset.base := rfl
@[simp] theorem resetKeeping_width (s : State) : (resetKeeping s).width = State.reset.width := rfl
@[simp] theorem resetKeeping_height (s : State) : (resetKeeping s).height = State.reset.height := rfl
@[simp] theorem resetKeeping_mipCount (s : State) : (resetKeeping s).mipCount = State.reset.mipCount := rfl
@[simp] theorem resetKeeping_pfFlags (s : State) : (resetKeeping s).pfFlags = State.reset.pfFlags := rfl
@[simp] theorem resetKeeping_fourcc (s : State) : (resetKeeping s).fourcc = State.reset.fourcc := rfl
@[simp] theorem resetKeeping_variant (s : State) : (resetKeeping s).variant = State.reset.variant := rfl
@[simp] theorem resetKeeping_bsize (s : State) : (resetKeeping s).bsize = State.reset.bsize := rfl
@[simp] theorem resetKeeping_bw (s : State) : (resetKeeping s).bw = State.reset.bw := rfl
@[simp] theorem resetKeeping_bh (s : State) : (resetKeeping s).bh = State.reset.bh := rfl
@[simp] theorem resetKeeping_nblk (s : State) : (resetKeeping s).nblk = State.reset.nblk := rfl
@[simp] theorem resetKeeping_blk (s : State) : (resetKeeping s).blk = State.reset.blk := rfl
@[simp] theorem resetKeeping_c0 (s : State) : (resetKeeping s).c0 = State.reset.c0 := rfl
@[simp] theorem resetKeeping_c1 (s : State) : (resetKeeping s).c1 = State.reset.c1 := rfl
@[simp] theorem resetKeeping_e0 (s : State) : (resetKeeping s).e0 = State.reset.e0 := rfl
@[simp] theorem resetKeeping_e1 (s : State) : (resetKeeping s).e1 = State.reset.e1 := rfl
@[simp] theorem resetKeeping_cpal (s : State) : (resetKeeping s).cpal = State.reset.cpal := rfl
@[simp] theorem resetKeeping_cidx (s : State) : (resetKeeping s).cidx = State.reset.cidx := rfl
@[simp] theorem resetKeeping_mode3 (s : State) : (resetKeeping s).mode3 = State.reset.mode3 := rfl
@[simp] theorem resetKeeping_a0 (s : State) : (resetKeeping s).a0 = State.reset.a0 := rfl
@[simp] theorem resetKeeping_a1 (s : State) : (resetKeeping s).a1 = State.reset.a1 := rfl
@[simp] theorem resetKeeping_aidx (s : State) : (resetKeeping s).aidx = State.reset.aidx := rfl
@[simp] theorem resetKeeping_aexp (s : State) : (resetKeeping s).aexp = State.reset.aexp := rfl
@[simp] theorem resetKeeping_apal (s : State) : (resetKeeping s).apal = State.reset.apal := rfl
@[simp] theorem resetKeeping_amode6 (s : State) : (resetKeeping s).amode6 = State.reset.amode6 := rfl
@[simp] theorem resetKeeping_pix (s : State) : (resetKeeping s).pix = State.reset.pix := rfl
@[simp] theorem resetKeeping_input (s : State) : (resetKeeping s).input = State.reset.input := rfl
@[simp] theorem resetKeeping_output (s : State) : (resetKeeping s).output = State.reset.output := rfl
@[simp] theorem resetKeeping_refused (s : State) : (resetKeeping s).refused = State.reset.refused := rfl
@[simp] theorem resetKeeping_inEra (s : State) : (resetKeeping s).inEra = s.inEra + 1 := rfl
@[simp] theorem resetKeeping_outEra (s : State) : (resetKeeping s).outEra = s.outEra + 1 := rfl
@[simp] theorem resetKeeping_draws (s : State) : (resetKeeping s).draws = s.draws := rfl
@[simp] theorem resetKeeping_inbox (s : State) : (resetKeeping s).inbox = s.inbox := rfl
@[simp] theorem resetKeeping_hostData (s : State) : (resetKeeping s).hostData = s.hostData := rfl

/-! The placing of a stream (log entry 9). -/

@[simp] theorem placeStream_cfg (bytes : List Byte) (n : Nat) (s : State) :
    (placeStream bytes n s).cfg = { s.cfg with outShared := false } := rfl
@[simp] theorem placeStream_phase (bytes : List Byte) (n : Nat) (s : State) :
    (placeStream bytes n s).phase = .parse := rfl
@[simp] theorem placeStream_err (bytes : List Byte) (n : Nat) (s : State) :
    (placeStream bytes n s).err = s.err := rfl
@[simp] theorem placeStream_inLen (bytes : List Byte) (n : Nat) (s : State) :
    (placeStream bytes n s).inLen = BitVec.ofNat 32 n := rfl
@[simp] theorem placeStream_wrapped (bytes : List Byte) (n : Nat) (s : State) :
    (placeStream bytes n s).wrapped = s.wrapped := rfl
@[simp] theorem placeStream_sizeMatch (bytes : List Byte) (n : Nat) (s : State) :
    (placeStream bytes n s).sizeMatch = s.sizeMatch := rfl
@[simp] theorem placeStream_sizeField (bytes : List Byte) (n : Nat) (s : State) :
    (placeStream bytes n s).sizeField = s.sizeField := rfl
@[simp] theorem placeStream_base (bytes : List Byte) (n : Nat) (s : State) :
    (placeStream bytes n s).base = 0 := rfl
@[simp] theorem placeStream_width (bytes : List Byte) (n : Nat) (s : State) :
    (placeStream bytes n s).width = s.width := rfl
@[simp] theorem placeStream_height (bytes : List Byte) (n : Nat) (s : State) :
    (placeStream bytes n s).height = s.height := rfl
@[simp] theorem placeStream_mipCount (bytes : List Byte) (n : Nat) (s : State) :
    (placeStream bytes n s).mipCount = s.mipCount := rfl
@[simp] theorem placeStream_pfFlags (bytes : List Byte) (n : Nat) (s : State) :
    (placeStream bytes n s).pfFlags = s.pfFlags := rfl
@[simp] theorem placeStream_fourcc (bytes : List Byte) (n : Nat) (s : State) :
    (placeStream bytes n s).fourcc = s.fourcc := rfl
@[simp] theorem placeStream_variant (bytes : List Byte) (n : Nat) (s : State) :
    (placeStream bytes n s).variant = s.variant := rfl
@[simp] theorem placeStream_bsize (bytes : List Byte) (n : Nat) (s : State) :
    (placeStream bytes n s).bsize = s.bsize := rfl
@[simp] theorem placeStream_bw (bytes : List Byte) (n : Nat) (s : State) :
    (placeStream bytes n s).bw = s.bw := rfl
@[simp] theorem placeStream_bh (bytes : List Byte) (n : Nat) (s : State) :
    (placeStream bytes n s).bh = s.bh := rfl
@[simp] theorem placeStream_nblk (bytes : List Byte) (n : Nat) (s : State) :
    (placeStream bytes n s).nblk = s.nblk := rfl
@[simp] theorem placeStream_blk (bytes : List Byte) (n : Nat) (s : State) :
    (placeStream bytes n s).blk = s.blk := rfl
@[simp] theorem placeStream_c0 (bytes : List Byte) (n : Nat) (s : State) :
    (placeStream bytes n s).c0 = s.c0 := rfl
@[simp] theorem placeStream_c1 (bytes : List Byte) (n : Nat) (s : State) :
    (placeStream bytes n s).c1 = s.c1 := rfl
@[simp] theorem placeStream_e0 (bytes : List Byte) (n : Nat) (s : State) :
    (placeStream bytes n s).e0 = s.e0 := rfl
@[simp] theorem placeStream_e1 (bytes : List Byte) (n : Nat) (s : State) :
    (placeStream bytes n s).e1 = s.e1 := rfl
@[simp] theorem placeStream_cpal (bytes : List Byte) (n : Nat) (s : State) :
    (placeStream bytes n s).cpal = s.cpal := rfl
@[simp] theorem placeStream_cidx (bytes : List Byte) (n : Nat) (s : State) :
    (placeStream bytes n s).cidx = s.cidx := rfl
@[simp] theorem placeStream_mode3 (bytes : List Byte) (n : Nat) (s : State) :
    (placeStream bytes n s).mode3 = s.mode3 := rfl
@[simp] theorem placeStream_a0 (bytes : List Byte) (n : Nat) (s : State) :
    (placeStream bytes n s).a0 = s.a0 := rfl
@[simp] theorem placeStream_a1 (bytes : List Byte) (n : Nat) (s : State) :
    (placeStream bytes n s).a1 = s.a1 := rfl
@[simp] theorem placeStream_aidx (bytes : List Byte) (n : Nat) (s : State) :
    (placeStream bytes n s).aidx = s.aidx := rfl
@[simp] theorem placeStream_aexp (bytes : List Byte) (n : Nat) (s : State) :
    (placeStream bytes n s).aexp = s.aexp := rfl
@[simp] theorem placeStream_apal (bytes : List Byte) (n : Nat) (s : State) :
    (placeStream bytes n s).apal = s.apal := rfl
@[simp] theorem placeStream_amode6 (bytes : List Byte) (n : Nat) (s : State) :
    (placeStream bytes n s).amode6 = s.amode6 := rfl
@[simp] theorem placeStream_pix (bytes : List Byte) (n : Nat) (s : State) :
    (placeStream bytes n s).pix = s.pix := rfl
@[simp] theorem placeStream_input (bytes : List Byte) (n : Nat) (s : State) :
    (placeStream bytes n s).input = cellsFrom 0 bytes ++ s.input.filter (fun c => decide (n ≤ c.1)) := rfl
@[simp] theorem placeStream_output (bytes : List Byte) (n : Nat) (s : State) :
    (placeStream bytes n s).output = s.output := rfl
@[simp] theorem placeStream_refused (bytes : List Byte) (n : Nat) (s : State) :
    (placeStream bytes n s).refused = s.refused := rfl
@[simp] theorem placeStream_inEra (bytes : List Byte) (n : Nat) (s : State) :
    (placeStream bytes n s).inEra = s.inEra := rfl
@[simp] theorem placeStream_outEra (bytes : List Byte) (n : Nat) (s : State) :
    (placeStream bytes n s).outEra = s.outEra := rfl
@[simp] theorem placeStream_draws (bytes : List Byte) (n : Nat) (s : State) :
    (placeStream bytes n s).draws = s.draws := rfl
@[simp] theorem placeStream_inbox (bytes : List Byte) (n : Nat) (s : State) :
    (placeStream bytes n s).inbox = [] := rfl
@[simp] theorem placeStream_hostData (bytes : List Byte) (n : Nat) (s : State) :
    (placeStream bytes n s).hostData = s.hostData := rfl

/-- The memories of State.reset are in canonical form. -/
theorem reset_memories_wf : Mem.wf State.reset.input = true ∧ Mem.wf State.reset.output = true := ⟨rfl, rfl⟩

/-- What a placed stream's cells read as. -/
theorem memGet_cellsFrom (a : Nat) (bs : List Byte) (m : Mem) (x : Nat) :
    memGet (cellsFrom a bs ++ m) x =
      if h : a ≤ x ∧ x < a + bs.length then some (bs[x - a]'(by omega)) else memGet m x := by
  induction bs generalizing a with
  | nil =>
    rw [dif_neg (by simp only [List.length_nil]; omega)]
    rfl
  | cons b bs ih =>
    simp only [cellsFrom, List.cons_append, memGet, ih (a + 1), List.length_cons]
    by_cases h : a = x
    · subst h
      simp
    · rw [if_neg h]
      by_cases h2 : a + 1 ≤ x ∧ x < a + 1 + bs.length
      · rw [dif_pos h2, dif_pos (by omega)]
        have e : x - a = (x - (a + 1)) + 1 := by omega
        simp [e]
      · rw [dif_neg h2, dif_neg (by omega)]

/-- Cells below every listed address, put in front, keep the canonical form. -/
theorem cellsFrom_wf (a : Nat) (bs : List Byte) (m : Mem) (h : Mem.wf m = true)
    (hb : ∀ c ∈ m, a + bs.length ≤ c.1) : Mem.wf (cellsFrom a bs ++ m) = true := by
  induction bs generalizing a with
  | nil => exact h
  | cons b bs ih =>
    simp only [List.length_cons] at hb
    refine (Mem.wf_cons _ _).mpr ⟨fun d hd => ?_, ih (a + 1) fun c hc => by have := hb c hc; omega⟩
    have low : ∀ (k : Nat) (l : List Byte), k ≥ a + 1 → ∀ e ∈ cellsFrom k l, a < e.1 := by
      intro k l
      induction l generalizing k with
      | nil => intro _ e he; simp [cellsFrom] at he
      | cons y l ihl =>
        intro hk e he
        rcases List.mem_cons.mp he with rfl | he
        · exact hk
        · exact ihl (k + 1) (by omega) e he
    rcases List.mem_append.mp hd with hd | hd
    · exact low (a + 1) bs (Nat.le_refl _) d hd
    · have := hb d hd
      show a < d.1
      omega

/-- Dropping cells keeps the canonical form. -/
theorem filter_wf (p : Host.Cell → Bool) (m : Mem) (h : Mem.wf m = true) : Mem.wf (m.filter p) = true := by
  induction m with
  | nil => rfl
  | cons c m ih =>
    have hc := (Mem.wf_cons c m).mp h
    rw [List.filter_cons]
    split
    · exact (Mem.wf_cons _ _).mpr ⟨fun d hd => hc.1 d (List.mem_filter.mp hd).1, ih hc.2⟩
    · exact ih hc.2

/-- Placing a stream keeps the canonical form, where it counts the bytes it places. -/
theorem placeStream_wf (bytes : List Byte) (n : Nat) (s : State) (hn : bytes.length ≤ n)
    (h : Mem.wf s.input = true) : Mem.wf (placeStream bytes n s).input = true := by
  rw [placeStream_input]
  refine cellsFrom_wf _ _ _ (filter_wf _ _ h) fun c hc => ?_
  have := of_decide_eq_true (List.mem_filter.mp hc).2
  omega

/-- A table word's bytes are as many as withFetchWord says. -/
theorem tableBytes_length (nbits w : Nat) : (tableBytes nbits w).length = tableBytesLen nbits := by
  have l : ∀ n v, (leBytes n v).length = n := by
    intro n
    induction n with
    | zero => intro v; rfl
    | succ n ih => intro v; simp [leBytes, ih]
  simp only [tableBytes, tableBytesLen, List.length_append, List.length_replicate, l, texLen]
  omega

end Sys2Proof.Machine
end

