-- ==== Sys2Proof/Tests/Slice0.lean ====
section
/-! SUPPORT. Tests of the model against the vectors of spec/95_test_vectors.md and the examples of the rules, and for each
statement with hypotheses a concrete state that meets them. -/

namespace Sys2Proof.Tests

open Sys2Proof.Machine

set_option maxRecDepth 8000

/-! ### Helpers -/

/-- Parameters for the tests: any values that meet the premise of R8 and D6 would do. OUT_CAP is one 4x4 image. -/
def cfg0 : Config where
  magic := #v[0x41, 0x42, 0x43, 0x44, 0x45, 0x46, 0x47, 0x48, 0x49]
  pad := 0x2D
  tag := #v[0xA1, 0xA2, 0xA3, 0xA4]
  inMax := 1000
  outCap := 64
  outShared := false

/-- Reset, with those parameters. -/
def start0 : State := { State.reset with cfg := cfg0 }

/-- IN holds these bytes, and IN_LEN is their number. -/
def load (bs : List Byte) (s : State) : State :=
  { s with input := cellsFrom 0 bs, inLen := BitVec.ofNat 32 bs.length }

/-- `TEX w=W h=H mips=1 pf=F fourcc=X` (R112). -/
def tex (w h pf fourcc : Nat) : List Byte :=
  leBytes 4 0x20534444 ++ leBytes 4 124 ++ leBytes 4 0x00081007 ++ leBytes 4 h ++ leBytes 4 w ++ leBytes 8 0 ++
    leBytes 4 1 ++ leBytes 44 0 ++ leBytes 4 32 ++ leBytes 4 pf ++ leBytes 4 fourcc ++ leBytes 20 0 ++
    leBytes 4 0x1000 ++ leBytes 16 0

/-- `CONT size=S` (R112). -/
def cont (size : Nat) : List Byte :=
  [0x41, 0x42, 0x43, 0x44, 0x45, 0x46, 0x47, 0x48, 0x49, 0x2D, 0x2D, 0x2D] ++ (leBytes 4 size).reverse ++
    [0xA1, 0xA2, 0xA3, 0xA4]

/-- The block of vector V-B1, all white. -/
def white : List Byte := [0xFF, 0xFF, 0, 0, 0, 0, 0, 0]

/-- What f sees of an outcome's next state, if it has one. -/
def seen {α : Type} (f : State → α) (o : Out) : Option α :=
  match o with
  | .next s => some (f s)
  | .fault _ => none
  | .refused _ => none

/-- The decoder picks this operation. -/
def picks (r : Except Reject Instr) (i : Instr) : Bool :=
  match r with
  | .ok j => j == i
  | .error _ => false

/-- The decoder picks no operation, for this reason. -/
def rejects (r : Except Reject Instr) (e : Reject) : Bool :=
  match r with
  | .ok _ => false
  | .error d => d == e

/-- An outcome that f sees is a next state. -/
theorem next_of_seen {α : Type} {f : State → α} {o : Out} {v : α} (h : seen f o = some v) :
    ∃ t, o = .next t ∧ f t = v := by
  cases o with
  | next s => exact ⟨s, rfl, Option.some.inj h⟩
  | fault r => cases h
  | refused r => cases h

/-- UNWRAP is about to run on these bytes. -/
def atUnwrap (bs : List Byte) : State := { load bs start0 with phase := .unwrap }

/-- PARSE is about to run on these bytes, as a bare stream. -/
def atParse (bs : List Byte) : State := { load bs start0 with phase := .parse }

/-- CHECK is about to run on a bare 4x4 DXT1 stream of these bytes. -/
def atCheck (bs : List Byte) : State :=
  { load bs start0 with
    phase := .check, width := 4, height := 4, mipCount := 1, pfFlags := 4, fourcc := 0x31545844
    variant := .dxt1, bsize := 8, bw := 1, bh := 1, nblk := 1 }

/-- DECODE is about to run on vector W2's bare white stream. -/
def atDecode : State := { atCheck (tex 4 4 4 0x31545844 ++ white) with phase := .decode }

/-- The image of W5: 6 by 5 pixels, a grid of 2 by 2. -/
def grid65 (k : Nat) : State :=
  { start0 with
    cfg := { cfg0 with outCap := 120 }, width := 6, height := 5, variant := .dxt1, bsize := 8, bw := 2, bh := 2
    nblk := 4, blk := BitVec.ofNat 64 k, phase := .decode }

/-! ### WellFormed: a term each check refuses -/

theorem test_wf_selDxt1_without_fourcc_bit : (Instr.selDxt1 0).wellFormed = false := by decide
theorem test_wf_selDxt3_without_fourcc_bit : (Instr.selDxt3 0x41).wellFormed = false := by decide
theorem test_wf_selDxt5_without_fourcc_bit : (Instr.selDxt5 0xFFFFFFFB).wellFormed = false := by decide
theorem test_wf_unsup_without_fourcc_bit : (Instr.selUnsupFourcc 0x41 0).wellFormed = false := by decide
theorem test_wf_unsup_of_dxt1 : (Instr.selUnsupFourcc 4 0x31545844).wellFormed = false := by decide
theorem test_wf_unsup_of_dxt3 : (Instr.selUnsupFourcc 4 0x33545844).wellFormed = false := by decide
theorem test_wf_unsup_of_dxt5 : (Instr.selUnsupFourcc 4 0x35545844).wellFormed = false := by decide
theorem test_wf_nofourcc_with_bit : (Instr.selUnsupNofourcc 4 0).wellFormed = false := by decide
theorem test_wf_unsup_of_dxt2 : (Instr.selUnsupFourcc 4 0x32545844).wellFormed = true := by decide

/-! ### Decoding: words written out from the spec -/

/-- R23: CTRL with bit 0 set, bits 31:1 ignored but kept as the operand. -/
theorem test_decode_start : picks (decode cfg0 .ctrl [0x03, 0x00, 0x00, 0x80]) (.start 0x40000001) = true := by decide

theorem test_decode_ctrl_short : rejects (decode cfg0 .ctrl [0x01, 0x00, 0x00]) .short = true := by decide

/-- R131: the nine bytes of MAGIC, and more after them. -/
theorem test_decode_unwrap :
    picks (decode cfg0 .container [0x41, 0x42, 0x43, 0x44, 0x45, 0x46, 0x47, 0x48, 0x49, 0x00]) .unwrap = true := by
  decide

/-- V-C2: eight of the nine bytes. V-C11: the last byte differs. -/
theorem test_decode_passthru :
    picks (decode cfg0 .container [0x41, 0x42, 0x43, 0x44, 0x45, 0x46, 0x47, 0x48]) .passthru = true ∧
      picks (decode cfg0 .container [0x41, 0x42, 0x43, 0x44, 0x45, 0x46, 0x47, 0x48, 0x4A]) .passthru = true := by
  decide

/-- R92, and V-H1 to V-H3. -/
theorem test_decode_parseHdr : picks (decode cfg0 .stream [0x44, 0x44, 0x53, 0x20]) .parseHdr = true := by decide
theorem test_decode_stream_refused :
    rejects (decode cfg0 .stream [0x44, 0x44, 0x53]) .short = true ∧
      rejects (decode cfg0 .stream [0x44, 0x44, 0x53, 0x21]) .signature = true ∧
      rejects (decode cfg0 .stream [0x20, 0x53, 0x44, 0x44]) .signature = true := by decide

/-- The table's own row, 32 bits 0x20534444. -/
theorem test_table_word : decodeTableWord 32 0x20534444 = some .parseHdr := by decide
theorem test_table_word_other : decodeTableWord 32 0x20534445 = none := by decide

/-- V-H14: the other bits of PF_FLAGS do not matter. -/
theorem test_decode_selDxt1 :
    picks (decode cfg0 .variant [0x05, 0, 0, 0, 0x44, 0x58, 0x54, 0x31]) (.selDxt1 5) = true := by decide
theorem test_decode_selDxt3 :
    picks (decode cfg0 .variant [0xFF, 0xFF, 0xFF, 0xFF, 0x44, 0x58, 0x54, 0x33]) (.selDxt3 0xFFFFFFFF) = true := by
  decide
theorem test_decode_selDxt5 :
    picks (decode cfg0 .variant [0x04, 0, 0, 0, 0x44, 0x58, 0x54, 0x35]) (.selDxt5 4) = true := by decide

/-- V-H10 and V-H13: 'DXT2' and 'dxt1'. -/
theorem test_decode_unsup_fourcc :
    picks (decode cfg0 .variant [0x04, 0, 0, 0, 0x44, 0x58, 0x54, 0x32]) (.selUnsupFourcc 4 0x32545844) = true ∧
      picks (decode cfg0 .variant [0x04, 0, 0, 0, 0x64, 0x78, 0x74, 0x31]) (.selUnsupFourcc 4 0x31747864) = true := by
  decide

/-- V-H8: bit 2 clear, whatever FOURCC is. -/
theorem test_decode_unsup_nofourcc :
    picks (decode cfg0 .variant [0x00, 0, 0, 0, 0x44, 0x58, 0x54, 0x31]) (.selUnsupNofourcc 0 0x31545844) = true := by
  decide

/-- V-B3's bytes (R95). -/
theorem test_decode_dxt1 :
    picks (decode cfg0 (.block .dxt1) [0x00, 0xF8, 0x1F, 0x00, 0xE4, 0xE4, 0xE4, 0xE4])
      (.decDxt1 0xF800 0x001F 0xE4E4E4E4) = true := by decide

/-- V-B5's bytes: alpha half first (R98), low nibble first (R96). -/
theorem test_decode_dxt3 :
    picks (decode cfg0 (.block .dxt3)
        [0x10, 0x32, 0x54, 0x76, 0x98, 0xBA, 0xDC, 0xFE, 0x1F, 0x00, 0x00, 0xF8, 0xE4, 0xE4, 0xE4, 0xE4])
      (.decDxt3 0xFEDCBA9876543210 0x001F 0xF800 0xE4E4E4E4) = true := by decide

/-- V-B6's bytes: A0, A1, then the 48 bits little-endian (R97). -/
theorem test_decode_dxt5 :
    picks (decode cfg0 (.block .dxt5)
        [0x00, 0xFF, 0x88, 0xC6, 0xFA, 0x88, 0xC6, 0xFA, 0xFF, 0xFF, 0xFF, 0xFF, 0x00, 0x00, 0x00, 0x00])
      (.decDxt5 0x00 0xFF 0xFAC688FAC688 0xFFFF 0xFFFF 0) = true := by decide

theorem test_decode_block_refused :
    rejects (decode cfg0 (.block .dxt1) [0, 0, 0, 0, 0, 0, 0]) .short = true ∧
      rejects (decode cfg0 (.block .unset) [0, 0, 0, 0, 0, 0, 0, 0]) .noVariant = true := by decide

/-- V-P1, V-P2, V-P3, V-P4: the palette of each variant and order of the endpoints (R106). -/
theorem test_decode_palette :
    picks (decode cfg0 (.palette .dxt1) [0x00, 0xF8, 0x1F, 0x00]) .cpal4 = true ∧
      picks (decode cfg0 (.palette .dxt1) [0x1F, 0x00, 0x00, 0xF8]) .cpal3 = true ∧
      picks (decode cfg0 (.palette .dxt3) [0x1F, 0x00, 0x00, 0xF8]) .cpal4 = true ∧
      picks (decode cfg0 (.palette .dxt5) [0x1F, 0x00, 0x00, 0xF8]) .cpal4 = true ∧
      picks (decode cfg0 (.palette .dxt1) [0x10, 0x84, 0x10, 0x84]) .cpal3 = true := by decide

/-- V-Q1, V-Q2, V-Q3: the alpha palette (R214), a tie falling to APAL6. -/
theorem test_decode_alphaPalette :
    picks (decode cfg0 .alphaPalette [255, 0]) .apal8 = true ∧ picks (decode cfg0 .alphaPalette [0, 255]) .apal6 = true ∧
      picks (decode cfg0 .alphaPalette [128, 128]) .apal6 = true := by decide

/-- R106: where the place alone, or VARIANT, picks the operation. -/
theorem test_decode_by_place :
    picks (decode cfg0 (.alphas .dxt3) []) .aexpl4 = true ∧ picks (decode cfg0 (.alphas .dxt5) []) .alut = true ∧
      picks (decode cfg0 .grid []) .grid = true ∧ picks (decode cfg0 .trunc []) .truncChk = true ∧
      picks (decode cfg0 .cap []) .capChk = true ∧
      picks (decode cfg0 .colours []) .clut = true ∧ picks (decode cfg0 .pixels []) .pixwr = true ∧
      picks (decode cfg0 .cursor []) .advance = true := by decide

theorem test_decode_expansions :
    picks (decode cfg0 (.channel5 .e0 .red) []) (.exp5 .e0 .red) = true ∧
      picks (decode cfg0 (.channel6 .e1) []) (.exp6 .e1) = true ∧
      picks (decode cfg0 (.endpoint .e1) []) (.exp565 .e1) = true := by decide

/-! ### START (R241) -/

/-- V-S9: START after DONE returns the results to 0. -/
theorem test_start_clears :
    seen (fun t => (t.phase, t.err, t.width, t.nblk, t.variant, t.inLen))
        (exec (.start 0) { atDecode with phase := .done, blk := 1 }) =
      some (.unwrap, ⟨.none, 0⟩, 0, 0, .unset, 136) := by decide

/-- V-S10: IN_LEN = IN_MAX + 1 is refused. -/
theorem test_start_range :
    seen (fun t => (t.phase, t.refused)) (exec (.start 0) { start0 with inLen := 1001 }) =
      some (.idle, some .inLenRange) := by decide

/-! ### The container (V-C3 to V-C13) -/

/-- V-C3, V-C6 (the third padding byte, with SIZE_FIELD latched before the check) and V-C7 (the last byte of the
tag). -/
theorem test_unwrap_errors :
    seen (fun t => (t.phase, t.err, t.wrapped, t.sizeField)) (exec .unwrap (atUnwrap ((cont 0).take 9))) =
        some (.error, ⟨.formatError, 0x01⟩, true, 0) ∧
      seen (fun t => (t.err, t.wrapped, t.sizeField, t.sizeMatch))
          (exec .unwrap (atUnwrap ((cont 0).take 11 ++ [0x2E, 0x12, 0x34, 0x56, 0x78, 0xA1, 0xA2, 0xA3, 0xA4]))) =
        some (⟨.formatError, 0x02⟩, true, 0x12345678, false) ∧
      seen (fun t => (t.err, t.sizeField, t.sizeMatch))
          (exec .unwrap (atUnwrap ((cont 0xFFFFFFFF).take 19 ++ [0xA5]))) =
        some (⟨.formatError, 0x03⟩, 0xFFFFFFFF, false) := by decide

/-- V-C8: the cross-check does not wrap around. V-C13: it holds on one payload byte. -/
theorem test_unwrap_passes :
    seen (fun t => (t.phase, t.base, t.wrapped, t.sizeMatch)) (exec .unwrap (atUnwrap (cont 0xFFFFFFFF))) =
        some (.parse, 20, true, false) ∧
      seen (fun t => (t.phase, t.base, t.wrapped, t.sizeMatch)) (exec .unwrap (atUnwrap (cont 0 ++ [0x20]))) =
        some (.parse, 20, true, true) := by decide

/-- V-C2 and V-C11: the UNWRAP phase passes an input through that lacks one byte of MAGIC, or differs in one. -/
theorem test_passthru_phase :
    seen (fun t => (t.phase, t.wrapped, t.base)) (step (atUnwrap ((cont 0).take 8))) = some (.parse, false, 0) ∧
      seen (fun t => (t.phase, t.wrapped, t.base)) (step (atUnwrap ((cont 0).take 8 ++ [0x4A, 0x00]))) =
        some (.parse, false, 0) := by decide

theorem test_passthru_exec :
    seen (fun t => (t.phase, t.wrapped, t.sizeMatch, t.base)) (exec .passthru { start0 with wrapped := true, base := 20 })
      = some (.parse, false, false, 0) := by decide

/-! ### The texture header (V-H2 to V-H20) -/

/-- The errors of PARSE_HDR. V-H2; V-H4, where 127 bytes latch nothing; V-H7, the width before the height and the
format; V-H5, the fields latched before the dimensions are checked; V-H6; V-H8; V-H10. -/
theorem test_parse_errors :
    seen (·.err) (exec .parseHdr (atParse ([0x44, 0x44, 0x53, 0x21] ++ leBytes 124 0))) =
        some ⟨.formatError, 0x04⟩ ∧
      seen (fun t => (t.phase, t.err, t.width, t.fourcc))
          (exec .parseHdr (atParse ((tex 4 4 4 0x31545844).take 127))) =
        some (.error, ⟨.formatError, 0x05⟩, 0, 0) ∧
      seen (·.err) (exec .parseHdr (atParse (tex 0 0 4 0x32545844))) = some ⟨.formatError, 0x06⟩ ∧
      seen (fun t => (t.err, t.height, t.fourcc)) (exec .parseHdr (atParse (tex 0 4 4 0x31545844))) =
        some (⟨.formatError, 0x06⟩, 4, 0x31545844) ∧
      seen (·.err) (exec .parseHdr (atParse (tex 4 0 4 0x31545844))) = some ⟨.formatError, 0x07⟩ ∧
      seen (·.err) (exec .parseHdr (atParse (tex 4 4 0 0x31545844))) = some ⟨.unsupportedFormatError, 0x08⟩ ∧
      seen (fun t => (t.err, t.variant, t.bw)) (exec .parseHdr (atParse (tex 4 4 4 0x32545844))) =
        some (⟨.unsupportedFormatError, 0x09⟩, .unset, 0) := by decide

/-- The example of R151: HEIGHT at offset 12 and WIDTH at 16. -/
theorem test_parse_good :
    seen (fun t => (t.phase, t.height, t.width, t.mipCount)) (exec .parseHdr (atParse (tex 6 5 4 0x31545844))) =
        some (.check, 5, 6, 1) ∧
      seen (fun t => (t.pfFlags, t.fourcc, t.variant, t.bsize)) (exec .parseHdr (atParse (tex 6 5 4 0x31545844))) =
        some (4, 0x31545844, .dxt1, 8) ∧
      seen (fun t => (t.bw, t.bh, t.nblk)) (exec .parseHdr (atParse (tex 6 5 4 0x31545844))) = some (2, 2, 4) := by
  decide

/-- R159 to R163. -/
theorem test_selDxt1 : seen (fun t => (t.variant, t.bsize)) (exec (.selDxt1 5) start0) = some (.dxt1, 8) := by decide
theorem test_selDxt3 : seen (fun t => (t.variant, t.bsize)) (exec (.selDxt3 4) start0) = some (.dxt3, 16) := by decide
theorem test_selDxt5 : seen (fun t => (t.variant, t.bsize)) (exec (.selDxt5 4) start0) = some (.dxt5, 16) := by decide
theorem test_selUnsupFourcc :
    seen (fun t => (t.phase, t.err, t.variant)) (exec (.selUnsupFourcc 4 0x32545844) start0) =
      some (.error, ⟨.unsupportedFormatError, 0x09⟩, .unset) := by decide
theorem test_selUnsupNofourcc :
    seen (fun t => (t.phase, t.err, t.variant)) (exec (.selUnsupNofourcc 0x41 0) start0) =
      some (.error, ⟨.unsupportedFormatError, 0x08⟩, .unset) := by decide

/-- V-G3 and V-G8. -/
theorem test_grid :
    seen (fun t => (t.bw, t.bh, t.nblk)) (exec .grid { start0 with width := 5, height := 4 }) = some (2, 1, 2) := by
  decide
theorem test_grid_largest :
    seen (fun t => (t.bw.toNat, t.bh.toNat, t.nblk.toNat))
        (exec .grid { start0 with width := 0xFFFFFFFF, height := 0xFFFFFFFF }) =
      some (1073741824, 1073741824, 1152921504606846976) := by decide

/-- V-T1 and V-T2, V-T8. -/
theorem test_truncChk :
    seen (·.phase) (exec .truncChk { atCheck [] with inLen := 136 }) = some .check ∧
      seen (fun t => (t.phase, t.err)) (exec .truncChk { atCheck [] with inLen := 135 }) =
        some (.error, ⟨.truncatedDataError, 0x0A⟩) := by decide
theorem test_truncChk_does_not_wrap :
    seen (·.err) (exec .truncChk { atCheck [] with inLen := 0xFFFFFFFF, nblk := 1152921504606846976 }) =
      some ⟨.truncatedDataError, 0x0A⟩ := by decide

/-- V-K1 and V-K2. -/
theorem test_capChk :
    seen (·.refused) (exec .capChk (atCheck [])) = some none ∧
      seen (fun t => (t.refused, t.phase)) (exec .capChk { atCheck [] with cfg := { cfg0 with outCap := 63 } }) =
        some (some .outCap, .check) := by decide

/-- V-K4: in the CHECK phase TRUNC_CHK comes first. -/
theorem test_check_order :
    seen (fun t => (t.err, t.refused)) (step { atCheck [] with inLen := 143, width := 5, bw := 2, nblk := 2 }) =
      some (⟨.truncatedDataError, 0x0A⟩, none) := by decide

/-! ### The colour-pair interpolator -/

/-- The example of R181, and V-E9's channels. -/
theorem test_exp5 :
    e5 22 = 181 ∧ seen (·.e0) (exec (.exp5 .e0 .red) { start0 with c0 := 0x1234 }) = some ⟨16, 0, 0⟩ := by decide
theorem test_exp5_blue :
    seen (·.e1) (exec (.exp5 .e1 .blue) { start0 with c1 := 0x1234, e1 := ⟨9, 9, 9⟩ }) = some ⟨9, 9, 165⟩ := by decide

/-- The example of R182, and V-E9's green. -/
theorem test_exp6 :
    e6 45 = 182 ∧ seen (·.e1) (exec (.exp6 .e1) { start0 with c1 := 0x1234 }) = some ⟨0, 69, 0⟩ := by decide

/-- V-E9 and V-E10. -/
theorem test_exp565 :
    seen (·.e0) (exec (.exp565 .e0) { start0 with c0 := 0x1234 }) = some ⟨16, 69, 165⟩ ∧
      seen (·.e1) (exec (.exp565 .e1) { start0 with c1 := 0x5678 }) = some ⟨82, 207, 198⟩ := by decide

/-- V-P10 and V-P12, from the expanded endpoints. -/
theorem test_cpal4 :
    seen (·.cpal) (exec .cpal4 { start0 with e0 := ⟨82, 207, 198⟩, e1 := ⟨16, 69, 165⟩ }) =
      some #v[⟨82, 207, 198, 255⟩, ⟨16, 69, 165, 255⟩, ⟨60, 161, 187, 255⟩, ⟨38, 115, 176, 255⟩] := by decide
theorem test_cpal4_truncates :
    seen (·.cpal) (exec .cpal4 { start0 with e0 := ⟨8, 4, 8⟩, mode3 := true }) =
      some #v[⟨8, 4, 8, 255⟩, ⟨0, 0, 0, 255⟩, ⟨5, 2, 5, 255⟩, ⟨2, 1, 2, 255⟩] := by decide

/-- V-P9 and V-P4. -/
theorem test_cpal3 :
    seen (fun t => (t.cpal, t.mode3)) (exec .cpal3 { start0 with e0 := ⟨16, 69, 165⟩, e1 := ⟨82, 207, 198⟩ }) =
      some (#v[⟨16, 69, 165, 255⟩, ⟨82, 207, 198, 255⟩, ⟨49, 138, 181, 255⟩, ⟨0, 0, 0, 0⟩], true) := by decide
theorem test_cpal3_tie :
    seen (·.cpal) (exec .cpal3 { start0 with e0 := ⟨132, 130, 132⟩, e1 := ⟨132, 130, 132⟩ }) =
      some #v[⟨132, 130, 132, 255⟩, ⟨132, 130, 132, 255⟩, ⟨132, 130, 132, 255⟩, ⟨0, 0, 0, 0⟩] := by decide

/-- V-L4: 0,1,2,3, 3,2,1,0, 0,0,3,3, 1,1,2,2. -/
theorem test_clut :
    seen (fun t => (List.finRange 16).map fun i => t.pix[i].r)
        (exec .clut { start0 with
          cidx := 0xA5F01BE4, cpal := #v[⟨0, 0, 0, 0⟩, ⟨1, 0, 0, 0⟩, ⟨2, 0, 0, 0⟩, ⟨3, 0, 0, 0⟩] }) =
      some [0, 1, 2, 3, 3, 2, 1, 0, 0, 0, 3, 3, 1, 1, 2, 2] := by decide

/-! ### The alpha LUT expander -/

/-- V-A1: pixel i has nibble i. -/
theorem test_aexpl4 :
    seen (fun t => (List.finRange 16).map fun i => t.pix[i].a) (exec .aexpl4 { start0 with aexp := 0xFEDCBA9876543210 })
      = some [0, 17, 34, 51, 68, 85, 102, 119, 136, 153, 170, 187, 204, 221, 238, 255] := by decide

/-- V-Q6 and V-Q1. -/
theorem test_apal8 :
    seen (·.apal) (exec .apal8 { start0 with a0 := 200, a1 := 100 }) =
      some #v[200, 100, 185, 171, 157, 142, 128, 114] := by decide
theorem test_apal8_truncates :
    seen (fun t => (t.apal, t.amode6)) (exec .apal8 { start0 with a0 := 255, amode6 := true }) =
      some (#v[255, 0, 218, 182, 145, 109, 72, 36], false) := by decide

/-- V-Q7 and V-Q3. -/
theorem test_apal6 :
    seen (fun t => (t.apal, t.amode6)) (exec .apal6 { start0 with a0 := 100, a1 := 200 }) =
      some (#v[100, 200, 120, 140, 160, 180, 0, 255], true) := by decide
theorem test_apal6_tie :
    seen (·.apal) (exec .apal6 { start0 with a0 := 128, a1 := 128 }) =
      some #v[128, 128, 128, 128, 128, 128, 0, 255] := by decide

/-- V-X4: the index of pixel 2 spans two bytes. -/
theorem test_alut :
    seen (fun t => (List.finRange 16).map fun i => t.pix[i].a)
        (exec .alut { start0 with aidx := 0x000000000180, apal := #v[9, 1, 2, 3, 4, 5, 6, 7] }) =
      some [9, 9, 6, 9, 9, 9, 9, 9, 9, 9, 9, 9, 9, 9, 9, 9] := by decide

/-! ### The block unpacker -/

/-- V-B3 and V-B2. -/
theorem test_decDxt1 :
    seen (fun t => (List.finRange 4).map fun i => t.pix[i.val]) (exec (.decDxt1 0xF800 0x001F 0xE4E4E4E4) start0) =
      some [⟨255, 0, 0, 255⟩, ⟨0, 0, 255, 255⟩, ⟨170, 0, 85, 255⟩, ⟨85, 0, 170, 255⟩] := by decide
theorem test_decDxt1_transparent :
    seen (fun t => (t.pix[15], t.mode3)) (exec (.decDxt1 0x0000 0xFFFF 0xFFFFFFFF) start0) =
      some (⟨0, 0, 0, 0⟩, true) := by decide

/-- V-B5's first row: CPAL4 although C0 < C1, the palette's alpha overwritten. -/
theorem test_decDxt3 :
    seen (fun t => (List.finRange 4).map fun i => t.pix[i.val])
        (exec (.decDxt3 0xFEDCBA9876543210 0x001F 0xF800 0xE4E4E4E4) start0) =
      some [⟨0, 0, 255, 0⟩, ⟨255, 0, 0, 17⟩, ⟨85, 0, 170, 34⟩, ⟨170, 0, 85, 51⟩] := by decide

/-- V-B6's first two rows. Program P3's first row. -/
theorem test_decDxt5 :
    seen (fun t => (List.finRange 8).map fun i => t.pix[i.val].a)
        (exec (.decDxt5 0 255 0xFAC688FAC688 0xFFFF 0xFFFF 0) start0) =
      some [0, 255, 51, 102, 153, 204, 0, 255] := by decide
theorem test_decDxt5_program :
    seen (fun t => (List.finRange 4).map fun i => t.pix[i.val])
        (exec (.decDxt5 255 0 0xFAC688FAC688 0x1234 0x5678 0xE4E4E4E4) start0) =
      some [⟨16, 69, 165, 255⟩, ⟨82, 207, 198, 0⟩, ⟨38, 115, 176, 218⟩, ⟨60, 161, 187, 182⟩] := by decide

/-- V-B7d: block 3 of a 6 by 5 image writes the pixels at 112 and 116 alone. -/
theorem test_pixwr :
    seen (·.output)
        (exec .pixwr { grid65 3 with pix := Vector.ofFn fun i => ⟨BitVec.ofNat 8 i.val, 1, 2, 3⟩ }) =
      some [(112, 0), (113, 1), (114, 2), (115, 3), (116, 1), (117, 1), (118, 2), (119, 3)] := by decide

/-- V-B7b: the addresses of block 1. -/
theorem test_pixwr_columns :
    seen (fun t => (t.output.map (·.1)).filter (fun a => a % 4 == 0)) (exec .pixwr (grid65 1)) =
      some [16, 20, 40, 44, 64, 68, 88, 92] := by decide

/-- R251: the last block ends the operation, an earlier one does not. -/
theorem test_advance :
    seen (fun t => (t.blk, t.phase)) (exec .advance (grid65 3)) = some (4, .done) ∧
      seen (fun t => (t.blk, t.phase)) (exec .advance (grid65 0)) = some (1, .decode) := by decide

/-- Program P1's last step, on its bare stream: the white block into OUT[0..63]. -/
theorem test_decode_step :
    seen (fun t => (t.phase, t.blk, t.output.map (·.2))) (step atDecode) =
      some (.done, 1, List.replicate 64 0xFF) := by decide

/-! ### The host -/

/-- P4's STATUS and ERR words. -/
theorem test_registers :
    readReg { start0 with phase := .error, err := ⟨.truncatedDataError, 0x0A⟩ } 1 = 0x6 ∧
      readReg { start0 with phase := .error, err := ⟨.truncatedDataError, 0x0A⟩ } 2 = 0x0A03 ∧
      readReg { start0 with phase := .decode } 1 = 0xC := by decide

/-- V-S7 and V-S8. -/
theorem test_busy_writes :
    seen (·.phase) (hostMove (.writeReg 0 1) atDecode) = some .decode ∧
      seen (·.inLen) (hostMove (.writeReg 3 7) atDecode) = some 136 := by decide

/-- N-P1: no host move writes IN while BUSY. -/
theorem test_input_hazard : seen (·.phase) (hostMove (.writeIn 128 [0]) atDecode) = none := by decide

/-- V-S11: a reset in DECODE abandons the operation. -/
theorem test_reset_move :
    seen (fun t => (t.phase, t.err, t.width, t.nblk, t.inLen)) (hostMove .reset atDecode) =
      some (.idle, ⟨.none, 0⟩, 0, 0, 0) := by decide

/-- The step at a placed table word runs PARSE_HDR: its header of zeros has WIDTH = 0. -/
theorem test_placed_word :
    seen (fun t => (t.phase, t.err)) (step (State.reset.withFetchWord 32 0x20534444)) =
      some (.error, ⟨.formatError, 0x06⟩) := by decide

/-! ### Witnesses: concrete states and operands that meet the hypotheses of each statement

Each theorem names its statement, and where the statement has several clauses, the clause. -/

/-- A predicate of a state that every next state of an outcome is known to have. -/
theorem next_with {p : State → Bool} {o : Out} (h : seen p o = some true) : ∃ t, o = .next t ∧ p t = true :=
  next_of_seen h

/-- A wrapped stream of four bytes, with IN_LEN = 24 (R91). -/
def wrapped24 : State := atUnwrap (cont 3 ++ [0x44, 0x44, 0x53, 0x20])

theorem quiet_start0 : Quiet start0 := ⟨rfl, rfl⟩
theorem quiet_atDecode : Quiet atDecode := ⟨rfl, rfl⟩

theorem wrapped24_magic : BeginsWithMagic wrapped24 := ⟨by decide, by decide⟩

theorem notMagic {s : State} (h : s.inLen.toNat < 9) : ¬ BeginsWithMagic s := fun m => by
  have := m.1
  omega

theorem inv_start0 : Inv start0 where
  inputCanon := by decide
  outputCanon := by decide
  inputBound := by decide
  outputBound := by decide
  errListed := by decide
  errPhase := by decide
  baseLegal := by decide
  sizeFlag := by decide
  blockSize := by decide
  busyInLen := by decide
  idleClear := fun _ => ⟨⟨rfl, rfl, rfl, rfl⟩, ⟨rfl, rfl, rfl, rfl, rfl, rfl, rfl, rfl, rfl, rfl⟩⟩
  unwrapClear := fun h => absurd h (by decide)
  parseClear := fun h => absurd h (by decide)
  checkReady := fun h => absurd h (by decide)
  decodeReady := fun h => absurd h (by decide)
  capMark := by decide
  doneReady := fun h => absurd h (by decide)

theorem inv_wrapped24 : Inv wrapped24 where
  inputCanon := by decide
  outputCanon := by decide
  inputBound := by decide
  outputBound := by decide
  errListed := by decide
  errPhase := by decide
  baseLegal := by decide
  sizeFlag := by decide
  blockSize := by decide
  busyInLen := by decide
  idleClear := fun h => absurd h (by decide)
  unwrapClear := fun _ => ⟨⟨rfl, rfl, rfl, rfl⟩, ⟨rfl, rfl, rfl, rfl, rfl, rfl, rfl, rfl, rfl, rfl⟩⟩
  parseClear := fun h => absurd h (by decide)
  checkReady := fun h => absurd h (by decide)
  decodeReady := fun h => absurd h (by decide)
  capMark := by decide
  doneReady := fun h => absurd h (by decide)

/-- The CHECK phase of the white 4x4 stream, 136 bytes. -/
def check136 : State := atCheck (tex 4 4 4 0x31545844 ++ white)

theorem inv_check136 : Inv check136 where
  inputCanon := by decide
  outputCanon := by decide
  inputBound := by decide
  outputBound := by decide
  errListed := by decide
  errPhase := by decide
  baseLegal := by decide
  sizeFlag := by decide
  blockSize := by decide
  busyInLen := by decide
  idleClear := fun h => absurd h (by decide)
  unwrapClear := fun h => absurd h (by decide)
  parseClear := fun h => absurd h (by decide)
  checkReady := fun _ => ⟨⟨by decide, by decide, by decide, by decide, by decide, by decide⟩, by decide⟩
  decodeReady := fun h => absurd h (by decide)
  capMark := by decide
  doneReady := fun h => absurd h (by decide)

theorem inv_atDecode : Inv atDecode where
  inputCanon := by decide
  outputCanon := by decide
  inputBound := by decide
  outputBound := by decide
  errListed := by decide
  errPhase := by decide
  baseLegal := by decide
  sizeFlag := by decide
  blockSize := by decide
  busyInLen := by decide
  idleClear := fun h => absurd h (by decide)
  unwrapClear := fun h => absurd h (by decide)
  parseClear := fun h => absurd h (by decide)
  checkReady := fun h => absurd h (by decide)
  decodeReady := fun _ =>
    ⟨⟨by decide, by decide, by decide, by decide, by decide, by decide⟩, ⟨by decide, by decide⟩, by decide⟩
  capMark := by decide
  doneReady := fun h => absurd h (by decide)

/-! DecodeOfEncode: a well-formed term of each constructor that has a check. -/
theorem witness_DecodeOfEncode :
    (Instr.selDxt1 4).wellFormed = true ∧ (Instr.selDxt3 4).wellFormed = true ∧
      (Instr.selDxt5 0xFFFFFFFF).wellFormed = true ∧ (Instr.selUnsupFourcc 4 0).wellFormed = true ∧
      (Instr.selUnsupNofourcc 0 0x31545844).wellFormed = true ∧ Instr.advance.wellFormed = true := by decide

theorem witness_BlockEncodingsAreTotal :
    (Variant.dxt1 ≠ .unset ∧ white.length = blockBytes .dxt1) ∧
      (Variant.dxt3 ≠ .unset ∧ (white ++ white).length = blockBytes .dxt3) ∧
      (Variant.dxt5 ≠ .unset ∧ (white ++ white).length = blockBytes .dxt5) := by decide

/-! VariantTable: the five rows of R105. -/
theorem witness_VariantTable_supported :
    (4#32).getLsbD 2 = true ∧ (0x31545844#32 = 0x31545844#32) ∧ (0x33545844#32 = 0x33545844#32) ∧
      (0x35545844#32 = 0x35545844#32) := by decide
theorem witness_VariantTable_unsupported :
    (4#32).getLsbD 2 = true ∧ 0x32545844#32 ≠ 0x31545844#32 ∧ 0x32545844#32 ≠ 0x33545844#32 ∧
      0x32545844#32 ≠ 0x35545844#32 := by decide
theorem witness_VariantTable_nofourcc : (0xFFFFFFFB#32).getLsbD 2 = false := by decide

theorem witness_DecodedIsWellFormed :
    decode cfg0 .variant [4, 0, 0, 0, 0x44, 0x58, 0x54, 0x31] = .ok (.selDxt1 4) := rfl

/-! StepRunsDecodedOperation: a state for each of its ways. -/
theorem witness_StepRunsDecodedOperation_unwrap :
    Quiet wrapped24 ∧ wrapped24.phase = .unwrap ∧
      picks (decode wrapped24.cfg .container (magicWindow wrapped24)) .unwrap = true :=
  ⟨⟨rfl, rfl⟩, rfl, by decide⟩
theorem witness_StepRunsDecodedOperation_parse :
    Quiet (atParse (tex 6 5 4 0)) ∧ (atParse (tex 6 5 4 0)).phase = .parse ∧
      picks (decode cfg0 .stream (inBytes (atParse (tex 6 5 4 0)) 0 (min 4 (streamLen (atParse (tex 6 5 4 0))))))
        .parseHdr = true :=
  ⟨⟨rfl, rfl⟩, rfl, by decide⟩
theorem witness_StepRunsDecodedOperation_block :
    Quiet atDecode ∧ atDecode.phase = .decode ∧ fetchBlock atDecode = some white ∧
      picks (decode cfg0 (.block .dxt1) white) (.decDxt1 0xFFFF 0 0) = true :=
  ⟨quiet_atDecode, rfl, by decide, by decide⟩
theorem witness_StepRunsDecodedOperation_start :
    ({ start0 with inbox := [.writeReg 0 1, .wait] } : State).inbox = .writeReg 0 1 :: [.wait] ∧
      start0.cfg.outShared = false ∧ picks (decode cfg0 .ctrl (leBytes 4 (1 : Word).toNat)) (.start 0) = true :=
  ⟨rfl, rfl, by decide⟩
theorem witness_StepRunsDecodedOperation_move :
    start0.cfg.outShared = false ∧ ({ start0 with inbox := [.readReg 1, .wait] } : State).inbox = .readReg 1 :: [.wait] ∧
      ({ atDecode with inbox := [.wait, .reset] } : State).cfg.outShared = false ∧
      ({ atDecode with inbox := [.wait, .reset] } : State).inbox = .wait :: [.reset] := ⟨rfl, rfl, rfl, rfl⟩
theorem witness_StepRunsDecodedOperation_word : decodeTableWord 32 0x20534444 = some .parseHdr := by decide

theorem witness_UnwrapPhase_magic : Quiet wrapped24 ∧ wrapped24.phase = .unwrap ∧ BeginsWithMagic wrapped24 :=
  ⟨⟨rfl, rfl⟩, rfl, wrapped24_magic⟩
theorem witness_UnwrapPhase_other :
    Quiet (atUnwrap ((cont 0).take 8)) ∧ (atUnwrap ((cont 0).take 8)).phase = .unwrap ∧
      ¬ BeginsWithMagic (atUnwrap ((cont 0).take 8)) :=
  ⟨⟨rfl, rfl⟩, rfl, notMagic (by decide)⟩

/-! CheckPhase: need = 136 on the white stream, and an image of 64 bytes. -/
theorem witness_CheckPhase_truncated :
    Quiet { check136 with inLen := 135 } ∧ ({ check136 with inLen := 135 } : State).phase = .check ∧
      ({ check136 with inLen := 135 } : State).refused ≠ some .outCap ∧ 135 < 0 + 128 + 1 * 8 :=
  ⟨⟨rfl, rfl⟩, rfl, by decide, by decide⟩
theorem witness_CheckPhase_refused :
    Quiet { check136 with cfg := { cfg0 with outCap := 63 } } ∧ check136.phase = .check ∧
      check136.refused ≠ some .outCap ∧
      check136.base.toNat + 128 + check136.nblk.toNat * check136.bsize.toNat ≤ check136.inLen.toNat ∧
      63 < check136.width.toNat * check136.height.toNat * 4 :=
  ⟨⟨rfl, rfl⟩, rfl, by decide, by decide, by decide⟩
theorem witness_CheckPhase_passes :
    Quiet check136 ∧ check136.phase = .check ∧ check136.refused ≠ some .outCap ∧ Inv check136 ∧
      check136.base.toNat + 128 + check136.nblk.toNat * check136.bsize.toNat ≤ check136.inLen.toNat ∧
      check136.width.toNat * check136.height.toNat * 4 ≤ check136.cfg.outCap :=
  ⟨⟨rfl, rfl⟩, rfl, by decide, inv_check136, by decide, by decide⟩

theorem witness_DecodePhase :
    Inv atDecode ∧ Quiet atDecode ∧ atDecode.phase = .decode ∧ pixelShown atDecode 15 = true ∧
      ∀ i : Fin 16, pixelShown atDecode i = true → 64 < pixelAddr atDecode i ∨ pixelAddr atDecode i + 4 ≤ 64 :=
  ⟨inv_atDecode, quiet_atDecode, rfl, by decide, by decide⟩

/-! WaitingPhases: a state with nothing pending, a reset that leaves DONE, and a START that leaves IDLE. -/
theorem witness_WaitingPhases_idle : start0.phase.busy = false ∧ start0.cfg.outShared = false ∧ start0.inbox = [] :=
  ⟨rfl, rfl, rfl⟩
theorem witness_WaitingPhases_reset :
    ∃ t, step { start0 with phase := .done, inbox := [.reset] } = .next t ∧ t.phase ≠ .done := by
  obtain ⟨t, h, p⟩ := next_with (p := fun t => t.phase != .done)
    (o := step { start0 with phase := .done, inbox := [.reset] }) (by decide)
  exact ⟨t, h, by simpa using p⟩
theorem witness_WaitingPhases_start :
    ∃ t, step { start0 with inbox := [.writeReg 0 1] } = .next t ∧ t.phase ≠ .idle := by
  obtain ⟨t, h, p⟩ := next_with (p := fun t => t.phase != .idle)
    (o := step { start0 with inbox := [.writeReg 0 1] }) (by decide)
  exact ⟨t, h, by simpa using p⟩

/-! StartStrobe: busy; IN_LEN = IN_MAX + 1; IN_LEN = IN_MAX. -/
theorem witness_StartStrobe :
    atDecode.phase.busy = true ∧
      (start0.phase.busy = false ∧ start0.cfg.inMax.toNat < ({ start0 with inLen := 1001 } : State).inLen.toNat) ∧
      (start0.phase.busy = false ∧ ({ start0 with inLen := 1000 } : State).inLen.toNat ≤ start0.cfg.inMax.toNat) := by
  decide

theorem witness_CtrlRegister : (0xFFFFFFFE#32).getLsbD 0 = false ∧ (0x00000001#32).getLsbD 0 = true := by decide

theorem witness_BusyWritesIgnored :
    atDecode.phase.busy = true ∧ wrapped24.phase.busy = true ∧ check136.phase.busy = true := by decide

theorem witness_HostRegisterAccess : (17 ≠ 0 ∧ 17 ≠ 3) ∧ start0.phase.busy = false ∧ 0x12 ≤ 0x12 := by decide

/-! UnwrapMeaning: IN_LEN = 19 and 20, a wrong padding byte, a wrong tag byte, and a good header. -/
theorem witness_UnwrapMeaning_short : (atUnwrap ((cont 5).take 19)).inLen.toNat < 20 := by decide
theorem witness_UnwrapMeaning_padding :
    20 ≤ (atUnwrap ((cont 0).take 9 ++ [0x2E] ++ (cont 0).drop 10)).inLen.toNat ∧
      ¬ PaddingRight (atUnwrap ((cont 0).take 9 ++ [0x2E] ++ (cont 0).drop 10)) :=
  ⟨by decide, fun h => absurd h.1 (by decide)⟩
theorem witness_UnwrapMeaning_tag :
    20 ≤ (atUnwrap ((cont 0).take 19 ++ [0])).inLen.toNat ∧ PaddingRight (atUnwrap ((cont 0).take 19 ++ [0])) ∧
      ¬ TagRight (atUnwrap ((cont 0).take 19 ++ [0])) :=
  ⟨by decide, ⟨by decide, by decide, by decide⟩, fun h => absurd (h 3) (by decide)⟩
theorem witness_UnwrapMeaning_selection :
    Quiet wrapped24 ∧ wrapped24.phase = .unwrap ∧ BeginsWithMagic wrapped24 := ⟨⟨rfl, rfl⟩, rfl, wrapped24_magic⟩
theorem witness_UnwrapMeaning_good :
    20 ≤ (atUnwrap (cont 0)).inLen.toNat ∧ PaddingRight (atUnwrap (cont 0)) ∧ TagRight (atUnwrap (cont 0)) :=
  ⟨by decide, ⟨by decide, by decide, by decide⟩, by unfold TagRight; decide⟩

theorem witness_PassthruMeaning :
    Quiet (atUnwrap []) ∧ (atUnwrap []).phase = .unwrap ∧ ¬ BeginsWithMagic (atUnwrap []) :=
  ⟨⟨rfl, rfl⟩, rfl, notMagic (by decide)⟩

theorem witness_HeaderRoundTrip :
    ∃ t, exec .unwrap wrapped24 = .next t ∧ BeginsWithMagic wrapped24 ∧ t.phase = .parse := by
  obtain ⟨t, h, p⟩ := next_with (p := fun t => t.phase == .parse) (o := exec .unwrap wrapped24) (by decide)
  exact ⟨t, h, wrapped24_magic, by simpa using p⟩
theorem witness_HeaderRoundTrip_raise : ∃ t, exec .unwrap (atUnwrap ((cont 5).take 19)) = .next t ∧ t.phase ≠ .parse := by
  obtain ⟨t, h, p⟩ := next_with (p := fun t => t.phase != .parse) (o := exec .unwrap (atUnwrap ((cont 5).take 19)))
    (by decide)
  exact ⟨t, h, by simpa using p⟩

/-! ParseHdrMeaning: each of its clauses, at lengths 3, 127 and 128. -/
theorem witness_ParseHdrMeaning_signature :
    ¬ BeginsWithSignature (atParse [0x44, 0x44, 0x53]) ∧
      ¬ BeginsWithSignature (atParse ([0x44, 0x44, 0x53, 0x21] ++ leBytes 124 0)) :=
  ⟨fun h => absurd h.1 (by decide), fun h => absurd h.2 (by decide)⟩
/-- The PARSE phase on an empty stream, on three bytes of the signature, and on another first word (R152). -/
theorem witness_ParseHdrMeaning_phase :
    (Quiet (atParse []) ∧ (atParse []).phase = .parse) ∧
      (Quiet (atParse [0x44, 0x44, 0x53]) ∧ (atParse [0x44, 0x44, 0x53]).phase = .parse) ∧
      (Quiet (atParse ([0x44, 0x44, 0x53, 0x21] ++ leBytes 124 0)) ∧
        (atParse ([0x44, 0x44, 0x53, 0x21] ++ leBytes 124 0)).phase = .parse) :=
  ⟨⟨⟨rfl, rfl⟩, rfl⟩, ⟨⟨rfl, rfl⟩, rfl⟩, ⟨rfl, rfl⟩, rfl⟩
theorem witness_ParseHdrMeaning_short :
    BeginsWithSignature (atParse ((tex 4 4 4 0x31545844).take 127)) ∧
      streamLen (atParse ((tex 4 4 4 0x31545844).take 127)) < 128 :=
  ⟨⟨by decide, by decide⟩, by decide⟩
theorem witness_ParseHdrMeaning_width :
    BeginsWithSignature (atParse (tex 0 0 4 0)) ∧ 128 ≤ streamLen (atParse (tex 0 0 4 0)) ∧
      (withHeader (atParse (tex 0 0 4 0))).width = 0 :=
  ⟨⟨by decide, by decide⟩, by decide, by decide⟩
theorem witness_ParseHdrMeaning_height :
    BeginsWithSignature (atParse (tex 4 0 4 0)) ∧ 128 ≤ streamLen (atParse (tex 4 0 4 0)) ∧
      (withHeader (atParse (tex 4 0 4 0))).width ≠ 0 ∧ (withHeader (atParse (tex 4 0 4 0))).height = 0 :=
  ⟨⟨by decide, by decide⟩, by decide, by decide, by decide⟩
theorem witness_ParseHdrMeaning_nofourcc :
    BeginsWithSignature (atParse (tex 4 4 0x41 0)) ∧ 128 ≤ streamLen (atParse (tex 4 4 0x41 0)) ∧
      (withHeader (atParse (tex 4 4 0x41 0))).width ≠ 0 ∧ (withHeader (atParse (tex 4 4 0x41 0))).height ≠ 0 ∧
      (withHeader (atParse (tex 4 4 0x41 0))).pfFlags.getLsbD 2 = false :=
  ⟨⟨by decide, by decide⟩, by decide, by decide, by decide, by decide⟩
theorem witness_ParseHdrMeaning_fourcc :
    BeginsWithSignature (atParse (tex 4 4 4 0)) ∧ 128 ≤ streamLen (atParse (tex 4 4 4 0)) ∧
      (withHeader (atParse (tex 4 4 4 0))).width ≠ 0 ∧ (withHeader (atParse (tex 4 4 4 0))).height ≠ 0 ∧
      (withHeader (atParse (tex 4 4 4 0))).pfFlags.getLsbD 2 = true ∧
      (withHeader (atParse (tex 4 4 4 0))).fourcc = 0 :=
  ⟨⟨by decide, by decide⟩, by decide, by decide, by decide, by decide, by decide⟩
theorem witness_ParseHdrMeaning_good :
    BeginsWithSignature (atParse (tex 1 1 5 0x35545844)) ∧ 128 ≤ streamLen (atParse (tex 1 1 5 0x35545844)) ∧
      (withHeader (atParse (tex 1 1 5 0x35545844))).width ≠ 0 ∧
      (withHeader (atParse (tex 1 1 5 0x35545844))).height ≠ 0 ∧
      (withHeader (atParse (tex 1 1 5 0x35545844))).pfFlags.getLsbD 2 = true ∧
      (withHeader (atParse (tex 1 1 5 0x35545844))).fourcc = 0x35545844#32 :=
  ⟨⟨by decide, by decide⟩, by decide, by decide, by decide, by decide, by decide⟩

theorem witness_TruncationCheck :
    ({ check136 with inLen := 135 } : State).inLen.toNat <
        check136.base.toNat + 128 + check136.nblk.toNat * check136.bsize.toNat ∧
      check136.base.toNat + 128 + check136.nblk.toNat * check136.bsize.toNat ≤ check136.inLen.toNat := by decide
theorem witness_CapacityCheck :
    63 < check136.width.toNat * check136.height.toNat * 4 ∧
      check136.width.toNat * check136.height.toNat * 4 ≤ check136.cfg.outCap := by decide

/-- Another dwFlags byte, at offset 8 of the header. -/
theorem witness_IgnoredHeaderBytes :
    memPut (atParse (tex 6 5 4 0)).input 8 0x55 ≠ (atParse (tex 6 5 4 0)).input ∧
      ∀ j, j < 88 → (j < 4 ∨ 12 ≤ j ∧ j < 20 ∨ 28 ≤ j ∧ j < 32 ∨ 80 ≤ j ∧ j < 88) →
        readIn { atParse (tex 6 5 4 0) with input := memPut (atParse (tex 6 5 4 0)).input 8 0x55 } (0 + j) =
          readIn (atParse (tex 6 5 4 0)) (0 + j) := by decide

theorem witness_MipCountUnread : Quiet atDecode ∧ atDecode.phase ≠ .parse := ⟨quiet_atDecode, by decide⟩

theorem witness_ExpandFiveBits : (30 : BitVec 5).toNat < (31 : BitVec 5).toNat := by decide
theorem witness_ColourModeSelection : Variant.dxt1 ≠ .unset ∧ Variant.dxt5 ≠ .unset := by decide
/-! The palettes' selections: C0 one above C1 and equal to it, A0 one above A1 and equal to it. -/
theorem witness_FourColourPalette : Variant.dxt1 = .dxt1 ∧ (0x0001#16).toNat < (0x0002#16).toNat := by decide
theorem witness_ThreeColourPalette : (0x0001#16).toNat ≤ (0x0001#16).toNat := by decide
theorem witness_AlphaPaletteSelection :
    (0x00#8).toNat < (0x01#8).toNat ∧ (0x01#8).toNat ≤ (0x01#8).toNat := by decide
theorem witness_DecodeBlocks : (leBytes 8 0).length = 8 ∧ (leBytes 16 0).length = 16 := by decide
theorem witness_EightValueAlphaPalette : 2 ≤ (2 : Fin 8).val ∧ 2 ≤ (7 : Fin 8).val := by decide
theorem witness_SixValueAlphaPalette :
    (2 ≤ (2 : Fin 8).val ∧ (2 : Fin 8).val ≤ 5) ∧ (2 ≤ (5 : Fin 8).val ∧ (5 : Fin 8).val ≤ 5) := by decide

/-- The bottom-right block of the 6 by 5 image, and an address above the image. -/
theorem witness_PixelWrite :
    (grid65 3).bw ≠ 0 ∧ (grid65 3).width.toNat * (grid65 3).height.toNat * 4 ≤ (grid65 3).cfg.outCap ∧
      pixelShown (grid65 3) 1 = true ∧ pixelShown (grid65 3) 2 = false ∧
      ∀ i : Fin 16, pixelShown (grid65 3) i = true → 120 < pixelAddr (grid65 3) i ∨ pixelAddr (grid65 3) i + 4 ≤ 120 := by
  decide

/-! UnreachableStops: no grid, OUT one byte too small, IN one byte too short, no variant. -/
theorem witness_UnreachableStops_pixwr :
    ({ grid65 3 with bw := 0 } : State).bw = 0 ∧
      (({ grid65 3 with cfg := { cfg0 with outCap := 119 } } : State).bw ≠ 0 ∧
        pixelShown { grid65 3 with cfg := { cfg0 with outCap := 119 } } 1 = true ∧
        119 < pixelAddr { grid65 3 with cfg := { cfg0 with outCap := 119 } } 1 + 4) := by decide
theorem witness_UnreachableStops_decode :
    (Quiet { atDecode with inLen := 135 } ∧ ({ atDecode with inLen := 135 } : State).phase = .decode ∧
        135 < 0 + 128 + atDecode.blk.toNat * atDecode.bsize.toNat + atDecode.bsize.toNat) ∧
      (Quiet { atDecode with variant := .unset } ∧ ({ atDecode with variant := .unset } : State).phase = .decode ∧
        ({ atDecode with variant := .unset } : State).variant = .unset ∧
        atDecode.base.toNat + 128 + atDecode.blk.toNat * atDecode.bsize.toNat + atDecode.bsize.toNat ≤
          atDecode.inLen.toNat) :=
  ⟨⟨⟨rfl, rfl⟩, rfl, by decide⟩, ⟨rfl, rfl⟩, rfl, rfl, by decide⟩

theorem witness_AdvanceCursor :
    ((grid65 3).blk.toNat < (grid65 3).nblk.toNat ∧ (grid65 3).blk + 1 = (grid65 3).nblk) ∧
      ((grid65 0).blk.toNat < (grid65 0).nblk.toNat ∧ (grid65 0).blk + 1 ≠ (grid65 0).nblk) := by decide

theorem witness_PixelOwnership :
    GridReady (grid65 0) ∧ 5 < (grid65 0).width.toNat ∧ 4 < (grid65 0).height.toNat ∧ 3 < (grid65 0).nblk.toNat :=
  ⟨⟨by decide, by decide, by decide, by decide, by decide, by decide⟩, by decide, by decide, by decide⟩

theorem witness_DatapathOperationsFrame :
    Instr.alut ∈ [Instr.cpal4, .cpal3, .clut, .aexpl4, .apal8, .apal6, .alut] ∧
      ∃ (e : Endpoint) (ch : Chan5), Instr.exp5 .e1 .blue = .exp5 e ch := ⟨by decide, .e1, .blue, rfl⟩

theorem witness_ErrorsAreRaises :
    ∃ t, Quiet (atParse []) ∧ (atParse []).phase ≠ .error ∧ step (atParse []) = .next t ∧ t.phase = .error := by
  obtain ⟨t, h, p⟩ := next_with (p := fun t => t.phase == .error) (o := step (atParse [])) (by decide)
  exact ⟨t, ⟨rfl, rfl⟩, by decide, h, by simpa using p⟩

theorem witness_RefusedMarkStays :
    ∃ t, ({ start0 with refused := some .inLenRange, inbox := [.readReg 1] } : State).refused ≠ none ∧
      (∀ rest, ({ start0 with inbox := [.readReg 1] } : State).inbox ≠ .reset :: rest) ∧
      step { start0 with refused := some .inLenRange, inbox := [.readReg 1] } = .next t := by
  obtain ⟨t, h, _⟩ := next_with (p := fun _ => true)
    (o := step { start0 with refused := some .inLenRange, inbox := [.readReg 1] }) (by decide)
  exact ⟨t, by decide, fun rest h => (by cases h), h⟩

/-- An instance whose OUT another shares, with a move of the host pending. -/
def shared : State := { start0 with cfg := { cfg0 with outShared := true }, inbox := [.readReg 1] }

/-- R280: the refusal of the configuration sets the mark, and a reset clears it. -/
theorem test_shared_marks : seen (·.refused) (step shared) = some (some .sharedOut) := by decide
theorem test_shared_reset :
    seen (·.refused) (step { shared with refused := some .sharedOut, inbox := [.reset] }) = some none := by decide

theorem witness_UnmeantSituations :
    (Quiet { check136 with refused := some .outCap } ∧
        ({ check136 with refused := some .outCap } : State).phase = .check) ∧
      shared.cfg.outShared = true ∧ (∀ rest, shared.inbox ≠ .reset :: rest) ∧ shared.refused ≠ some .sharedOut ∧
      ({ shared with refused := some .sharedOut } : State).refused = some .sharedOut ∧
      ({ shared with inbox := [.reset] } : State).inbox = .reset :: [] :=
  ⟨⟨⟨rfl, rfl⟩, rfl⟩, rfl, fun _ h => (by cases h), by decide, rfl, rfl⟩

/-! HostWritesInput: the last three bytes of IN, and the addresses beside them. -/
theorem witness_HostWritesInput :
    atDecode.phase.busy = true ∧ start0.phase.busy = false ∧
      997 + ([1, 2, 3] : List Byte).length ≤ start0.cfg.inMax.toNat ∧ 2 < ([1, 2, 3] : List Byte).length ∧
      (996 < 997 ∨ 997 + ([1, 2, 3] : List Byte).length ≤ 996) ∧
      start0.cfg.inMax.toNat < 998 + ([1, 2, 3] : List Byte).length := by decide

theorem witness_HostReadsOutput :
    atDecode.cfg.outCap ≤ atDecode.cfg.outCap ∧ (63 < atDecode.cfg.outCap ∧ atDecode.phase.busy = true) ∧
      (63 < start0.cfg.outCap ∧ start0.phase.busy = false) := by decide

theorem witness_StepKeepsInvariant : ∃ t, Inv atDecode ∧ step atDecode = .next t := by
  obtain ⟨t, h, _⟩ := next_with (p := fun _ => true) (o := step atDecode) (by decide)
  exact ⟨t, inv_atDecode, h⟩

theorem witness_SequencerNeverFaults : Inv atDecode ∧ Quiet atDecode ∧ atDecode.refused ≠ some .outCap :=
  ⟨inv_atDecode, quiet_atDecode, by decide⟩

theorem witness_ParametersAreFixed : ∃ t, step start0 = .next t := ⟨start0, rfl⟩

theorem witness_SequencerKeepsInput : ∃ t, Quiet atDecode ∧ step atDecode = .next t := by
  obtain ⟨t, h, _⟩ := next_with (p := fun _ => true) (o := step atDecode) (by decide)
  exact ⟨t, quiet_atDecode, h⟩

/-- The same job with another datapath, another OUT, and another byte of IN above IN_LEN. -/
def otherDecode : State :=
  { atDecode with c0 := 7, mode3 := true, output := [(3, 9)], input := atDecode.input ++ [(500, 1)] }

theorem witness_ResultDependsOnJobAlone : SameJob atDecode otherDecode ∧ ∃ t, step atDecode = .next t := by
  refine ⟨⟨⟨quiet_atDecode, ⟨rfl, rfl⟩⟩, rfl, rfl, rfl, rfl, ⟨rfl, rfl, rfl, rfl⟩, ⟨rfl, rfl, rfl, rfl, rfl⟩,
    ⟨rfl, rfl, rfl, rfl, rfl, rfl⟩, rfl, ?_⟩, ?_⟩
  · have h : ∀ a, a < 136 → readIn otherDecode a = readIn atDecode a := by decide
    exact fun a ha => h a ha
  · obtain ⟨t, h, _⟩ := next_with (p := fun _ => true) (o := step atDecode) (by decide)
    exact ⟨t, h⟩

theorem witness_OperationEnds : Inv wrapped24 ∧ Quiet wrapped24 ∧ wrapped24.phase = .unwrap :=
  ⟨inv_wrapped24, ⟨rfl, rfl⟩, rfl⟩

theorem witness_OutputIsDecodedImage :
    Inv atDecode ∧ Quiet atDecode ∧ atDecode.phase = .decode ∧ atDecode.blk = 0 ∧ 3 < atDecode.width.toNat ∧
      3 < atDecode.height.toNat ∧ atDecode.width.toNat * atDecode.height.toNat * 4 ≤ 64 :=
  ⟨inv_atDecode, quiet_atDecode, rfl, rfl, by decide, by decide, by decide⟩

end Sys2Proof.Tests
end

section
/-! Where PIXWR and the DECODE step stop in states no run reaches (R13, R61, R245; log entry 12). -/

namespace Sys2Proof.Machine

/-- Without a grid no block has a place in the image, so PIXWR stops before its first pixel. -/
theorem exec_pixwr_noGrid (s : State) (hw : s.bw = 0) : exec .pixwr s = .fault .noGrid := by
  simp only [exec, execPixwr, hw, if_true]

/-- One shown pixel above OUT stops PIXWR, whatever the pixels beside it do (R61). -/
theorem exec_pixwr_outBounds (s : State) (i : Fin 16) (hw : s.bw ≠ 0) (hs : pixelShown s i = true)
    (hc : s.cfg.outCap < pixelAddr s i + 4) : exec .pixwr s = .fault .outBounds := by
  have hnone : writePixels s (List.finRange 16) s.output = none :=
    writePixels_none s i hs hc _ _ (List.mem_finRange i)
  simp only [exec, execPixwr, hw, if_false, hnone]

/-- The turn of the sequencer in DECODE is the block's step (R240, R245). -/
theorem step_decode (s : State) (q : Quiet s) (h : s.phase = .decode) : step s = decodeStep s := by
  rw [step_quiet s q, seqStep_decode s h]

/-- R13: the block is read exactly when it lies below IN_LEN. -/
theorem fetchBlock_of_le (s : State) (h : blockAddr s + s.bsize.toNat ≤ s.inLen.toNat) :
    fetchBlock s = some (inBytes s (blockAddr s) s.bsize.toNat) :=
  if_pos h

theorem fetchBlock_of_lt (s : State) (h : s.inLen.toNat < blockAddr s + s.bsize.toNat) : fetchBlock s = none :=
  if_neg (Nat.not_le_of_lt h)

theorem decodeStep_inBounds (s : State) (h : s.inLen.toNat < blockAddr s + s.bsize.toNat) :
    decodeStep s = .fault .inBounds := by
  simp only [decodeStep, fetchBlock_of_lt s h]

/-- Without a variant the bytes of a block pick no operation. -/
theorem decodeStep_noVariant (s : State) (hv : s.variant = .unset)
    (h : blockAddr s + s.bsize.toNat ≤ s.inLen.toNat) : decodeStep s = .fault .noVariant := by
  simp only [decodeStep, fetchBlock_of_le s h, hv, decode, decodeBlock]

/-- Settles O42: the two stops of PIXWR, then the two of the DECODE step. -/
theorem unreachableStops : Obligations.UnreachableStops := by
  intro s
  refine ⟨exec_pixwr_noGrid s, exec_pixwr_outBounds s, fun q hp h => ?_, fun q hp hv h => ?_⟩
  · rw [step_decode s q hp]
    exact decodeStep_inBounds s h
  · rw [step_decode s q hp]
    exact decodeStep_noVariant s hv h

end Sys2Proof.Machine
end

section
/-! The datapath operations, and what they leave (R36 to R44; the frame of R20 item 2). -/

namespace Sys2Proof.Machine

/-- The operation writes the datapath registers and nothing else: the three block operations and the ten they are made
of. -/
def datapathOnly : Instr → Bool
  | .decDxt1 _ _ _ | .decDxt3 _ _ _ _ | .decDxt5 _ _ _ _ _ _ => true
  | .exp5 _ _ | .exp6 _ | .exp565 _ | .cpal4 | .cpal3 | .clut => true
  | .aexpl4 | .apal8 | .apal6 | .alut => true
  | _ => false

theorem setExpanded_onlyDatapath (e : Endpoint) (v : Rgb) (s : State) : OnlyDatapath s (setExpanded e v s) := by
  cases e <;> rfl

theorem exec_exp5_eq (e : Endpoint) (ch : Chan5) (s : State) :
    ∃ v, exec (.exp5 e ch) s = .next (setExpanded e v s) := by
  cases ch <;> exact ⟨_, rfl⟩

/-- A datapath operation completes from every state, and its frame is everything but the datapath. -/
theorem exec_datapathOnly (i : Instr) (s : State) (h : datapathOnly i = true) :
    ∃ t, exec i s = .next t ∧ OnlyDatapath s t := by
  cases i with
  | decDxt1 c0 c1 cidx =>
    obtain ⟨t, e, o, -⟩ := dec1_spec c0 c1 cidx s
    exact ⟨t, e, o⟩
  | decDxt3 aexp c0 c1 cidx =>
    obtain ⟨t, e, o, -⟩ := dec3_spec aexp c0 c1 cidx s
    exact ⟨t, e, o⟩
  | decDxt5 a0 a1 aidx c0 c1 cidx =>
    obtain ⟨t, e, o, -⟩ := dec5_spec a0 a1 aidx c0 c1 cidx s
    exact ⟨t, e, o⟩
  | exp5 e ch =>
    obtain ⟨v, hv⟩ := exec_exp5_eq e ch s
    exact ⟨_, hv, setExpanded_onlyDatapath e v s⟩
  | exp6 e => exact ⟨_, rfl, setExpanded_onlyDatapath e _ s⟩
  | exp565 e => exact ⟨_, rfl, expandInto_onlyDatapath e s⟩
  | cpal4 => exact ⟨_, rfl, buildPalette4_onlyDatapath s⟩
  | cpal3 => exact ⟨_, rfl, buildPalette3_onlyDatapath s⟩
  | clut => exact ⟨_, rfl, lookupColours_onlyDatapath s⟩
  | aexpl4 => exact ⟨_, rfl, setAlphas_onlyDatapath _ s⟩
  | apal8 | apal6 => exact ⟨_, rfl, rfl⟩
  | alut => exact ⟨_, rfl, setAlphas_onlyDatapath _ s⟩
  | start | unwrap | passthru | parseHdr | selDxt1 | selDxt3 | selDxt5 | selUnsupFourcc | selUnsupNofourcc | grid
  | truncChk | capChk | pixwr | advance => cases h

/-- Settles O45: each of the ten is a datapath operation, and a change of the datapath alone moves no byte. -/
theorem datapathOperationsFrame : Obligations.DatapathOperationsFrame := by
  intro s i h
  have hd : datapathOnly i = true := by
    rcases h with h | ⟨e, ch, rfl | rfl | rfl⟩
    · simp only [List.mem_cons, List.not_mem_nil, or_false] at h
      rcases h with rfl | rfl | rfl | rfl | rfl | rfl | rfl <;> rfl
    · rfl
    · rfl
    · rfl
  obtain ⟨t, e, o⟩ := exec_datapathOnly i s hd
  exact ⟨t, e, o, o.sameBytes⟩

end Sys2Proof.Machine
end

section
/-! Every way one step can end in a next state, said once: the shared operations, the sequencer, the host, and the
machine. -/

namespace Sys2Proof.Machine

/-- Every outcome of START (R241, R306). -/
theorem exec_start_cases (hi : BitVec 31) (s : State) :
    s.phase.busy = true ∧ exec (.start hi) s = .next s ∨
    s.phase.busy = false ∧ s.cfg.inMax.toNat < s.inLen.toNat ∧ exec (.start hi) s = .next (refuse .inLenRange s) ∨
    s.phase.busy = false ∧ s.inLen.toNat ≤ s.cfg.inMax.toNat ∧ exec (.start hi) s = .next (clearForStart s) := by
  simp only [exec, execStart]
  by_cases hb : s.phase.busy = true
  · exact Or.inl ⟨hb, if_pos hb⟩
  · have hb' : s.phase.busy = false := by simpa using hb
    rw [if_neg hb]
    by_cases hr : s.cfg.inMax.toNat < s.inLen.toNat
    · exact Or.inr (Or.inl ⟨hb', hr, if_pos hr⟩)
    · exact Or.inr (Or.inr ⟨hb', Nat.le_of_not_lt hr, if_neg hr⟩)

/-- PIXWR writes OUT alone. -/
theorem exec_pixwr_next {s t : State} (h : exec .pixwr s = .next t) : ∃ m, t = { s with output := m } := by
  simp only [exec, execPixwr] at h
  split at h
  · cases h
  · split at h
    · cases h
      exact ⟨_, rfl⟩
    · cases h

/-- ADVANCE moves BLK on, and PHASE alone beside it. -/
theorem exec_advance_next {s t : State} (h : exec .advance s = .next t) :
    ∃ p, t = { s with blk := s.blk + 1, phase := p } := by
  rw [exec_advance_eq] at h
  split at h <;> cases h
  · exact ⟨.done, rfl⟩
  · exact ⟨s.phase, rfl⟩

/-- A DECODE step is a decoded operation, PIXWR and ADVANCE in a row (R245). -/
theorem decodeStep_next {s t : State} (h : decodeStep s = .next t) :
    ∃ i u v, exec i s = .next u ∧ exec .pixwr u = .next v ∧ exec .advance v = .next t := by
  unfold decodeStep at h
  split at h
  · cases h
  · split at h
    · cases h
    · obtain ⟨u, hu, h⟩ := (andThen_next _ _ _).mp h
      obtain ⟨v, hv, h⟩ := (andThen_next _ _ _).mp h
      exact ⟨_, u, v, hu, hv, h⟩

/-- The ways a sequencer step answers a next state, by the phase it starts in (R240). -/
inductive SequencerMove (s t : State) : Prop where
  | waits (hp : s.phase.busy = false) (ht : t = s)
  | unwrap (hp : s.phase = .unwrap) (h : exec .unwrap s = .next t)
  | passthru (hp : s.phase = .unwrap) (h : exec .passthru s = .next t)
  | parse (hp : s.phase = .parse) (h : exec .parseHdr s = .next t)
  | truncated (hp : s.phase = .check) (hr : s.refused ≠ some .outCap) (ht : t = raise .truncatedDataError 0x0A s)
  | refused (hp : s.phase = .check) (ht : t = refuse .outCap s)
  | entered (hp : s.phase = .check) (hr : s.refused ≠ some .outCap) (hn : needed s ≤ s.inLen.toNat)
      (hc : imageBytes s ≤ s.cfg.outCap) (ht : t = enterDecode s)
  | decoded (hp : s.phase = .decode) (h : decodeStep s = .next t)

theorem seqStep_next {s t : State} (h : seqStep s = .next t) : SequencerMove s t := by
  cases hp : s.phase with
  | idle | done | error =>
    have hb : s.phase.busy = false := by rw [hp]; rfl
    rw [seqStep_waiting s hb] at h
    cases h
    exact .waits hb rfl
  | unwrap =>
    rw [seqStep_unwrap s hp, unwrapStep] at h
    by_cases hm : BeginsWithMagic s
    · rw [(containerOp_eq s).1 hm] at h
      exact .unwrap hp h
    · rw [(containerOp_eq s).2 hm] at h
      exact .passthru hp h
  | parse => exact .parse hp (seqStep_parse s hp ▸ h)
  | check =>
    by_cases hr : s.refused = some .outCap
    · rw [seqStep_refused s hp hr] at h
      cases h
    · rw [seqStep_check s hp hr] at h
      rcases checkStep_cases s hp hr with ⟨-, e⟩ | ⟨-, -, e⟩ | ⟨hn, hc, e⟩ <;> rw [e] at h <;> cases h
      · exact .truncated hp hr rfl
      · exact .refused hp rfl
      · exact .entered hp hr hn hc rfl
  | decode => exact .decoded hp (seqStep_decode s hp ▸ h)

theorem wordAt_leBytes (v : Word) : wordAt (leBytes 4 v.toNat) 0 = v := by
  have hs : slice (leBytes 4 v.toNat) 0 4 = leBytes 4 v.toNat := slice_full _
  rw [wordAt, hs]
  exact ofNat_le_leBytes 32 4 v rfl

/-- R23: a write of CTRL is START where bit 0 is set, and nothing otherwise. -/
theorem writeCtrl_eq (v : Word) (s : State) :
    writeCtrl v s = if v.getLsbD 0 then exec (.start (v.extractLsb' 1 31)) s else .next s := by
  have hl : tooShort (leBytes 4 v.toNat) 4 = false := rfl
  simp only [writeCtrl, decode, hl, wordAt_leBytes, Bool.false_eq_true, if_false]
  cases v.getLsbD 0 <;> rfl

/-- The ways a register write of the host ends: it is ignored, it sets IN_LEN, or it is START (R48). -/
theorem writeReg_cases (n : Nat) (v : Word) (s : State) :
    writeReg n v s = .next s ∨ s.phase.busy = false ∧ writeReg n v s = .next { s with inLen := v } ∨
      ∃ hi, writeReg n v s = exec (.start hi) s := by
  unfold writeReg
  split
  · rw [writeCtrl_eq]
    split
    · exact Or.inr (Or.inr ⟨_, rfl⟩)
    · exact Or.inl rfl
  · unfold writeInLen
    split
    · exact Or.inl rfl
    · rename_i hb
      exact Or.inr (Or.inl ⟨by simpa using hb, rfl⟩)
  · exact Or.inl rfl

/-- The ways a move of the host answers a next state (R48, R300 to R307), `wait` being the sequencer's. -/
inductive HostEffect (m : HostMove) (s t : State) : Prop where
  | ignored (ht : t = s)
  | setInLen (hb : s.phase.busy = false) (v : Word) (ht : t = { s with inLen := v })
  | rangeRefused (ht : t = refuse .inLenRange s)
  | started (hb : s.phase.busy = false) (hl : s.inLen.toNat ≤ s.cfg.inMax.toNat) (ht : t = clearForStart s)
  | wroteIn (a : Nat) (bytes : List Byte) (hl : a + bytes.length ≤ s.cfg.inMax.toNat)
      (ht : t = { s with input := memPutAll s.input a bytes })
  | didRead (d : Long) (n : Nat) (ht : t = { s with hostData := d, draws := n })
  | didReset (ht : t = resetKeeping s)
  | waited (h : seqStep s = .next t)

theorem hostMove_next {m : HostMove} {s t : State} (h : hostMove m s = .next t) : HostEffect m s t := by
  cases m with
  | writeReg n v =>
    simp only [hostMove] at h
    rcases writeReg_cases n v s with e | ⟨hb, e⟩ | ⟨hi, e⟩ <;> rw [e] at h
    · cases h
      exact .ignored rfl
    · cases h
      exact .setInLen hb v rfl
    · rcases exec_start_cases hi s with ⟨-, e⟩ | ⟨-, -, e⟩ | ⟨hb, hl, e⟩ <;> rw [e] at h <;> cases h
      · exact .ignored rfl
      · exact .rangeRefused rfl
      · exact .started hb hl rfl
  | readReg n =>
    cases h
    exact .didRead _ s.draws rfl
  | writeIn a bytes =>
    simp only [hostMove, writeInput] at h
    split at h
    · cases h
    · split at h
      · cases h
        exact .wroteIn a bytes ‹_› rfl
      · cases h
  | readOut a =>
    simp only [hostMove, readOutput] at h
    split at h
    · cases h
    · split at h
      · cases h
        exact .didRead _ _ rfl
      · cases h
        exact .didRead _ s.draws rfl
  | reset =>
    cases h
    exact .didReset rfl
  | wait => exact .waited h

/-- The ways a step answers a next state: the configuration is refused (R82), the sequencer steps, or the host moves (a
reset, where OUT is shared). -/
theorem step_next {s t : State} (h : step s = .next t) :
    t = refuse .sharedOut s ∨ Quiet s ∧ seqStep s = .next t ∨
      ∃ m rest, s.inbox = m :: rest ∧ hostMove m { s with inbox := rest } = .next t := by
  cases hs : s.cfg.outShared with
  | true =>
    rcases step_shared s hs with ⟨rest, hi, e⟩ | ⟨-, ⟨-, e⟩ | ⟨-, e⟩⟩ <;> rw [e] at h <;> cases h
    · exact Or.inr (Or.inr ⟨_, rest, hi, rfl⟩)
    · exact Or.inl rfl
  | false =>
    cases hi : s.inbox with
    | nil =>
      have q : Quiet s := ⟨hi, hs⟩
      exact Or.inr (Or.inl ⟨q, step_quiet s q ▸ h⟩)
    | cons m rest => exact Or.inr (Or.inr ⟨m, rest, rfl, step_move s m rest hs hi ▸ h⟩)

end Sys2Proof.Machine
end

section
/-! What no operation of the sequencer writes: the parameters, IN, IN_LEN, and what is the host's (R20, R60, R80). -/

namespace Sys2Proof.Machine

/-- The parameters, the input and the host's own fields of a state. -/
structure HostSide where
  cfg : Config
  input : Mem
  inEra : Nat
  inLen : Word
  inbox : List HostMove
  hostData : Long
  draws : Nat

/-- The host's side of s, as one value: an operation keeps it exactly when this is the same after it. -/
def hostSide (s : State) : HostSide := ⟨s.cfg, s.input, s.inEra, s.inLen, s.inbox, s.hostData, s.draws⟩

theorem hostSide_eq_iff (s t : State) :
    hostSide t = hostSide s ↔ t.cfg = s.cfg ∧ t.input = s.input ∧ t.inEra = s.inEra ∧ t.inLen = s.inLen ∧
      t.inbox = s.inbox ∧ t.hostData = s.hostData ∧ t.draws = s.draws := by
  simp only [hostSide, HostSide.mk.injEq]

theorem OnlyDatapath.hostSide_eq {s t : State} (h : OnlyDatapath s t) : hostSide t = hostSide s := by
  unfold OnlyDatapath at h
  rw [h]
  rfl

theorem parseFields_hostSide (s : State) : hostSide (parseFields s) = hostSide s := by
  rcases parseFields_cases s with ⟨k, cause, -, -, e⟩ | ⟨v, -, -, -, e⟩ <;> rw [e] <;> rfl

/-- No operation of the table writes the host's side, START included. -/
theorem exec_hostSide {i : Instr} {s t : State} (h : exec i s = .next t) : hostSide t = hostSide s := by
  cases hd : datapathOnly i with
  | true =>
    obtain ⟨u, e, o⟩ := exec_datapathOnly i s hd
    cases e.symm.trans h
    exact o.hostSide_eq
  | false =>
    cases i with
    | start hi =>
      rcases exec_start_cases hi s with ⟨-, e⟩ | ⟨-, -, e⟩ | ⟨-, -, e⟩ <;> cases e.symm.trans h <;> rfl
    | unwrap =>
      rcases exec_unwrap_cases s with ⟨cause, -, -, e | e⟩ | ⟨-, e⟩ <;> cases e.symm.trans h <;> rfl
    | parseHdr =>
      rcases exec_parseHdr_cases s with ⟨cause, -, e⟩ | ⟨-, e⟩ <;> cases e.symm.trans h
      · rfl
      · exact parseFields_hostSide (latchHeader s)
    | truncChk =>
      rw [exec_truncChk_eq] at h
      split at h <;> cases h <;> rfl
    | capChk =>
      rw [exec_capChk_eq] at h
      split at h <;> cases h <;> rfl
    | pixwr =>
      obtain ⟨m, rfl⟩ := exec_pixwr_next h
      rfl
    | advance =>
      obtain ⟨p, rfl⟩ := exec_advance_next h
      rfl
    | passthru | selDxt1 | selDxt3 | selDxt5 | selUnsupFourcc | selUnsupNofourcc | grid =>
      cases h
      rfl
    | decDxt1 | decDxt3 | decDxt5 | exp5 | exp6 | exp565 | cpal4 | cpal3 | clut | aexpl4 | apal8 | apal6 | alut =>
      cases hd

theorem decodeStep_hostSide {s t : State} (h : decodeStep s = .next t) : hostSide t = hostSide s := by
  obtain ⟨i, u, v, hi, hp, ha⟩ := decodeStep_next h
  exact ((exec_hostSide ha).trans (exec_hostSide hp)).trans (exec_hostSide hi)

/-- No sequencer step writes the host's side, whichever phase it starts in. -/
theorem seqStep_hostSide {s t : State} (h : seqStep s = .next t) : hostSide t = hostSide s := by
  cases seqStep_next h with
  | waits _ ht | truncated _ _ ht | refused _ ht | entered _ _ _ _ ht =>
    subst ht
    rfl
  | unwrap _ h | passthru _ h | parse _ h => exact exec_hostSide h
  | decoded _ h => exact decodeStep_hostSide h

theorem seqStep_cfg {s t : State} (h : seqStep s = .next t) : t.cfg = s.cfg :=
  congrArg HostSide.cfg (seqStep_hostSide h)

theorem hostMove_cfg {m : HostMove} {s t : State} (h : hostMove m s = .next t) : t.cfg = s.cfg := by
  cases hostMove_next h with
  | waited h => exact seqStep_cfg h
  | ignored ht | setInLen _ _ ht | rangeRefused ht | started _ _ ht | wroteIn _ _ _ ht | didRead _ _ ht | didReset ht =>
    subst ht
    rfl

/-- Settles O56: the sequencer writes nothing of the host's side, and no move of the host, not even a reset, writes a
parameter. -/
theorem parametersAreFixed : Obligations.ParametersAreFixed := by
  intro s t h
  rcases step_next h with rfl | ⟨-, h⟩ | ⟨m, rest, -, h⟩
  · rfl
  · exact seqStep_cfg h
  · exact (hostMove_cfg h :)

/-- Settles O57: a quiet step is the sequencer's, which writes nothing of the host's side. -/
theorem sequencerKeepsInput : Obligations.SequencerKeepsInput := by
  intro s t q h
  have k := seqStep_hostSide (step_quiet s q ▸ h)
  obtain ⟨-, hi, he, hl, hb, hd, hr⟩ := (hostSide_eq_iff s t).mp k
  exact ⟨hi, he, hl, hb.trans q.1, hd, hr⟩

end Sys2Proof.Machine
end

section
/-! The invariant, taken apart by phase: what holds in every phase, and what the phase a state is in adds (R47). -/

namespace Sys2Proof.Machine

/-- The clauses of the invariant that do not read PHASE. -/
structure PhaseFree (s : State) : Prop where
  inputCanon : Mem.wf s.input = true
  outputCanon : Mem.wf s.output = true
  inputBound : ∀ c ∈ s.input, c.1 < s.cfg.inMax.toNat
  outputBound : ∀ c ∈ s.output, c.1 < s.cfg.outCap
  errListed : listedErr s.err = true
  baseLegal : s.base = 0 ∨ s.base = 20
  sizeFlag : s.sizeMatch = true → s.wrapped = true
  blockSize : s.bsize.toNat = blockBytes s.variant

/-- IN_LEN is in range and the stream starts inside the input, as they are while BUSY (R26, R151). -/
def LengthsReady (s : State) : Prop := s.inLen.toNat ≤ s.cfg.inMax.toNat ∧ s.base.toNat ≤ s.inLen.toNat

/-- What the invariant adds in a phase. -/
def PhaseReadyAt (p : Phase) (s : State) : Prop :=
  match p with
  | .idle => ContainerClear s ∧ HeaderClear s
  | .unwrap => LengthsReady s ∧ ContainerClear s ∧ HeaderClear s
  | .parse => LengthsReady s ∧ HeaderClear s
  | .check => LengthsReady s ∧ GridReady s ∧ s.blk = 0
  | .decode => LengthsReady s ∧ GridReady s ∧ BlocksReady s ∧ s.blk.toNat < s.nblk.toNat
  | .done => GridReady s ∧ s.blk = s.nblk ∧ imageBytes s ≤ s.cfg.outCap
  | .error => True

theorem Inv.phaseFree {s : State} (h : Inv s) : PhaseFree s where
  inputCanon := h.inputCanon
  outputCanon := h.outputCanon
  inputBound := h.inputBound
  outputBound := h.outputBound
  errListed := h.errListed
  baseLegal := h.baseLegal
  sizeFlag := h.sizeFlag
  blockSize := h.blockSize

/-- The clauses that do not read PHASE, the two that tie ERR and the mark to it, and its own: together the invariant. -/
theorem PhaseFree.inv {s : State} (f : PhaseFree s) (he : s.err.kind = .none ↔ s.phase ≠ .error)
    (hm : s.refused = some .outCap → s.phase = .check) (r : PhaseReadyAt s.phase s) : Inv s := by
  have atPhase : ∀ {p}, s.phase = p → PhaseReadyAt p s := fun hp => hp ▸ r
  exact
    { f with
      errPhase := he
      capMark := hm
      busyInLen := fun hb => by
        cases hp : s.phase with
        | idle | done | error =>
          rw [hp] at hb
          cases hb
        | unwrap | parse | check | decode => exact (atPhase hp).1
      idleClear := atPhase
      unwrapClear := fun hp => (atPhase hp).2
      parseClear := fun hp => (atPhase hp).2
      checkReady := fun hp => (atPhase hp).2
      decodeReady := fun hp => (atPhase hp).2
      doneReady := atPhase }

theorem listedErr_format {cause : Byte} (h1 : 1 ≤ cause.toNat) (h7 : cause.toNat ≤ 7) :
    listedErr ⟨.formatError, cause⟩ = true := by
  simp [listedErr, h1, h7]

/-- A state of the invariant is not in ERROR exactly when it has no error. -/
theorem Inv.kind_none {s : State} (h : Inv s) {p : Phase} (hp : s.phase = p) (hne : p ≠ .error) :
    s.err.kind = .none := h.errPhase.mpr (hp ▸ hne)

/-- Outside CHECK the mark holds no OUT_CAP (R280). -/
theorem Inv.not_outCap {s : State} (h : Inv s) {p : Phase} (hp : s.phase = p) (hne : p ≠ .check) :
    s.refused ≠ some .outCap := fun hr => hne (hp ▸ h.capMark hr)

/-- The state after reset meets the invariant whatever the parameters, the eras and the host's own fields are: the phase
is IDLE, every result is clear, and nothing is listed in IN and OUT (R49). -/
theorem inv_reset (c : Config) (i o n : Nat) (moves : List HostMove) (d : Long) :
    Inv { State.reset with cfg := c, inEra := i, outEra := o, draws := n, inbox := moves, hostData := d } := by
  have f : PhaseFree { State.reset with
      cfg := c, inEra := i, outEra := o, draws := n, inbox := moves, hostData := d } :=
    { inputCanon := rfl
      outputCanon := rfl
      inputBound := fun _ hc => absurd hc List.not_mem_nil
      outputBound := fun _ hc => absurd hc List.not_mem_nil
      errListed := rfl
      baseLegal := Or.inl rfl
      sizeFlag := fun hs => (nomatch hs)
      blockSize := rfl }
  exact f.inv ⟨fun _ => Phase.noConfusion, fun _ => rfl⟩ (fun hr => nomatch hr)
    ⟨⟨rfl, rfl, rfl, rfl⟩, ⟨rfl, rfl, rfl, rfl, rfl, rfl, rfl, rfl, rfl, rfl⟩⟩

/-- Settles O53: one choice of what a reset leaves free. -/
theorem resetMeetsInvariant : Obligations.ResetMeetsInvariant :=
  inv_reset State.reset.cfg 0 0 0 [] 0

end Sys2Proof.Machine
end

section
/-! Every sequencer step keeps the invariant. -/

namespace Sys2Proof.Machine

/-- A raise ends in the invariant from any state whose clauses outside PHASE hold (R271). -/
theorem PhaseFree.raise {s : State} (f : PhaseFree s) (hr : s.refused ≠ some .outCap) {k : ErrKind} {cause : Byte}
    (hl : listedErr ⟨k, cause⟩ = true) (hk : k ≠ .none) : Inv (raise k cause s) := by
  have g : PhaseFree (Machine.raise k cause s) :=
    { f with outputCanon := rfl, outputBound := fun _ hc => absurd hc List.not_mem_nil, errListed := hl }
  exact g.inv (by simp [hk]) (fun h => absurd h hr) trivial

/-- A refusal keeps the invariant where its mark may stand (R280). -/
theorem Inv.refuse {s : State} (h : Inv s) {r : RefuseReason} (hr : r = .outCap → s.phase = .check) :
    Inv (refuse r s) :=
  { h with
    capMark := fun e => hr (Option.some.inj e)
    idleClear := fun p => ⟨{ (h.idleClear p).1 with }, { (h.idleClear p).2 with }⟩
    unwrapClear := fun p => ⟨{ (h.unwrapClear p).1 with }, { (h.unwrapClear p).2 with }⟩
    parseClear := fun p => { h.parseClear p with }
    checkReady := fun p => ⟨{ (h.checkReady p).1 with }, (h.checkReady p).2⟩
    decodeReady := fun p =>
      ⟨{ (h.decodeReady p).1 with }, { (h.decodeReady p).2.1 with }, (h.decodeReady p).2.2⟩
    doneReady := fun p => ⟨{ (h.doneReady p).1 with }, (h.doneReady p).2⟩ }

/-- UNWRAP ends in an error of the container, or in PARSE at BASE 20 (R131). -/
theorem Inv.unwrap {s t : State} (h : Inv s) (hp : s.phase = .unwrap) (e : exec .unwrap s = .next t) : Inv t := by
  have hr : s.refused ≠ some .outCap := h.not_outCap hp (by decide)
  have f : PhaseFree { s with wrapped := true } := { h.phaseFree with sizeFlag := fun _ => rfl }
  have fl : PhaseFree (latchSize { s with wrapped := true }) := { h.phaseFree with sizeFlag := fun _ => rfl }
  rcases exec_unwrap_cases s with ⟨cause, h1, h3, e' | e'⟩ | ⟨hl, e'⟩ <;> cases e'.symm.trans e
  · exact f.raise hr (listedErr_format h1 (by omega)) (by decide)
  · exact fl.raise hr (listedErr_format h1 (by omega)) (by decide)
  · have g : PhaseFree { latchSize { s with wrapped := true } with base := 20, phase := .parse } :=
      { fl with baseLegal := Or.inr rfl }
    obtain ⟨hm, -⟩ := h.busyInLen (hp ▸ rfl)
    exact g.inv (by simp [h.kind_none hp (by decide)]) (fun k => absurd k hr)
      ⟨⟨hm, hl⟩, { (h.unwrapClear hp).2 with }⟩

/-- PASSTHRU ends in PARSE at BASE 0 (R132). -/
theorem Inv.passthru {s t : State} (h : Inv s) (hp : s.phase = .unwrap) (e : exec .passthru s = .next t) : Inv t := by
  cases e
  have f : PhaseFree { s with wrapped := false, sizeMatch := false, base := 0, phase := .parse } :=
    { h.phaseFree with baseLegal := Or.inl rfl, sizeFlag := fun k => nomatch k }
  obtain ⟨hm, -⟩ := h.busyInLen (hp ▸ rfl)
  exact f.inv (by simp [h.kind_none hp (by decide)]) (fun k => absurd k (h.not_outCap hp (by decide)))
    ⟨⟨hm, Nat.zero_le _⟩, { (h.unwrapClear hp).2 with }⟩

theorem setVariant_blockSize (v : Variant) (s : State) : (setVariant v s).bsize.toNat = blockBytes v := by
  cases v <;> rfl

/-- The grid of a selected variant is ready where the image has both dimensions (R33, R158). -/
theorem setGrid_gridReady {v : Variant} {s : State} (hv : v ≠ .unset) (hw : s.width ≠ 0) (hh : s.height ≠ 0) :
    GridReady { setGrid (setVariant v s) with phase := .check } := by
  obtain ⟨hbw, hbh, hn, -⟩ := setGrid_counts (setVariant v s)
  exact ⟨hv, hw, hh, hbw, hbh, hn⟩

/-- The entry to CHECK: a variant, its grid, and BLK still 0 (R151, R158). -/
theorem PhaseFree.enterCheck {s : State} (f : PhaseFree s) (hk : s.err.kind = .none) (hl : LengthsReady s)
    (hb : s.blk = 0) {v : Variant} (hv : v ≠ .unset) (hw : s.width ≠ 0) (hh : s.height ≠ 0) :
    Inv { setGrid (setVariant v s) with phase := .check } := by
  have g : PhaseFree { setGrid (setVariant v s) with phase := .check } :=
    { f with blockSize := setVariant_blockSize v s }
  exact g.inv (by simp [hk]) (fun _ => rfl) ⟨hl, setGrid_gridReady hv hw hh, hb⟩

/-- PARSE_HDR ends in a listed error, or in CHECK (R151). -/
theorem Inv.parseHdr {s t : State} (h : Inv s) (hp : s.phase = .parse) (e : exec .parseHdr s = .next t) : Inv t := by
  have hr : s.refused ≠ some .outCap := h.not_outCap hp (by decide)
  rcases exec_parseHdr_cases s with ⟨cause, hl, e'⟩ | ⟨-, e'⟩ <;> cases e'.symm.trans e
  · exact h.phaseFree.raise hr hl (by decide)
  · have f : PhaseFree (latchHeader s) := { h.phaseFree with }
    rcases parseFields_cases (latchHeader s) with ⟨k, cause, hl, hk, e⟩ | ⟨v, hv, hw, hh, e⟩ <;> rw [e]
    · exact f.raise hr hl hk
    · exact f.enterCheck (h.kind_none hp (by decide)) (h.busyInLen (hp ▸ rfl)) (h.parseClear hp).blk hv hw hh

/-- The entry to DECODE, where TRUNC_CHK and CAP_CHK have found room for every block and the image (R244). -/
theorem Inv.enterDecode {s : State} (h : Inv s) (hp : s.phase = .check) (hr : s.refused ≠ some .outCap)
    (hn : needed s ≤ s.inLen.toNat) (hc : imageBytes s ≤ s.cfg.outCap) : Inv (enterDecode s) := by
  obtain ⟨g, -⟩ := h.checkReady hp
  have f : PhaseFree (Machine.enterDecode s) := { h.phaseFree with }
  exact f.inv (by simp [h.kind_none hp (by decide)]) (fun k => absurd k hr)
    ⟨h.busyInLen (hp ▸ rfl), { g with }, ⟨hn, hc⟩, nblk_pos s g⟩

/-- The block cursor does not wrap below NBLK (R31). -/
theorem blk_succ_lt {b n : Long} (h : b.toNat < n.toNat) (hne : b + 1 ≠ n) : (b + 1).toNat < n.toNat := by
  bv_omega

/-- A DECODE step ends in DECODE at the next block, or after the last one in DONE (R251). -/
theorem Inv.decodeStep {s t : State} (h : Inv s) (hp : s.phase = .decode) (e : decodeStep s = .next t) : Inv t := by
  obtain ⟨g, b, hk⟩ := h.decodeReady hp
  obtain ⟨d, m, ho, e', hwf, hbd, -⟩ := decodeStep_spec s g b h.blockSize hk hp
  cases e'.symm.trans e
  unfold OnlyDatapath at ho
  rw [ho]
  have f : PhaseFree { s with output := m } :=
    { h.phaseFree with outputCanon := hwf h.outputCanon, outputBound := hbd h.outputBound }
  have hkind : s.err.kind = .none := h.kind_none hp (by decide)
  have hr : s.refused ≠ some .outCap := h.not_outCap hp (by decide)
  by_cases hlast : s.blk + 1 = s.nblk
  · rw [if_pos hlast]
    exact PhaseFree.inv { f with } (by simp [hkind]) (fun k => absurd k hr) ⟨{ g with }, hlast, b.image⟩
  · rw [if_neg hlast]
    exact PhaseFree.inv { f with } (by simp [hkind]) (fun k => absurd k hr)
      ⟨h.busyInLen (hp ▸ rfl), { g with }, { b with }, blk_succ_lt hk hlast⟩

/-- Every sequencer step keeps the invariant, by the phase it starts in. -/
theorem Inv.seqStep {s t : State} (h : Inv s) (e : seqStep s = .next t) : Inv t := by
  cases seqStep_next e with
  | waits _ ht => exact ht ▸ h
  | unwrap hp e => exact h.unwrap hp e
  | passthru hp e => exact h.passthru hp e
  | parse hp e => exact h.parseHdr hp e
  | truncated _ hr ht => exact ht ▸ h.phaseFree.raise hr rfl (by decide)
  | refused hp ht => exact ht ▸ h.refuse fun _ => hp
  | entered hp hr hn hc ht => exact ht ▸ h.enterDecode hp hr hn hc
  | decoded hp e => exact h.decodeStep hp e

end Sys2Proof.Machine
end

section
/-! Every move of the host keeps the invariant, and so does every step. -/

namespace Sys2Proof.Machine

/-- An accepted START (R50): the results are clear, and IN_LEN is in range. -/
theorem Inv.clearForStart {s : State} (h : Inv s) (hb : s.phase.busy = false)
    (hl : s.inLen.toNat ≤ s.cfg.inMax.toNat) : Inv (clearForStart s) := by
  have hr : s.refused ≠ some .outCap := fun k => by
    rw [h.capMark k] at hb
    cases hb
  have f : PhaseFree (Machine.clearForStart s) :=
    { h.phaseFree with errListed := rfl, baseLegal := Or.inl rfl, sizeFlag := fun k => (nomatch k), blockSize := rfl }
  exact f.inv (by simp) (fun k => absurd k hr)
    ⟨⟨hl, Nat.zero_le _⟩, ⟨rfl, rfl, rfl, rfl⟩, ⟨rfl, rfl, rfl, rfl, rfl, rfl, rfl, rfl, rfl, rfl⟩⟩

/-- IN_LEN may take any value while the machine waits (R26). -/
theorem Inv.setInLen {s : State} (h : Inv s) (hb : s.phase.busy = false) (v : Word) : Inv { s with inLen := v } := by
  have hne : ∀ {p : Phase}, p.busy = true → s.phase ≠ p := fun hp e => by
    rw [e, hp] at hb
    cases hb
  exact
    { h with
      busyInLen := fun k => absurd rfl (hne k)
      idleClear := fun p => ⟨{ (h.idleClear p).1 with }, { (h.idleClear p).2 with }⟩
      unwrapClear := fun p => absurd p (hne rfl)
      parseClear := fun p => absurd p (hne rfl)
      checkReady := fun p => absurd p (hne rfl)
      decodeReady := fun p => absurd p (hne rfl)
      doneReady := fun p => ⟨{ (h.doneReady p).1 with }, (h.doneReady p).2⟩ }

/-- A write of IN below IN_MAX (R60, R302). -/
theorem Inv.writeIn {s : State} (h : Inv s) {a : Nat} {bytes : List Byte}
    (hl : a + bytes.length ≤ s.cfg.inMax.toNat) : Inv { s with input := memPutAll s.input a bytes } := by
  refine SameControl.inv (s := s) rfl h (memPutAll_wf _ _ _ h.inputCanon) h.outputCanon (fun c hc => ?_) h.outputBound
  rcases mem_memPutAll _ _ _ _ hc with hc | ⟨-, hc⟩
  · exact h.inputBound c hc
  · exact Nat.lt_of_lt_of_le hc hl

/-- The host's own fields stand in no clause. -/
theorem Inv.hostFields {s : State} (h : Inv s) (moves : List HostMove) (d : Long) (n : Nat) :
    Inv { s with inbox := moves, hostData := d, draws := n } :=
  SameControl.inv (s := s) rfl h h.inputCanon h.outputCanon h.inputBound h.outputBound

theorem Inv.hostMove {m : HostMove} {s t : State} (h : Inv s) (e : hostMove m s = .next t) : Inv t := by
  cases hostMove_next e with
  | ignored ht => exact ht ▸ h
  | setInLen hb v ht => exact ht ▸ h.setInLen hb v
  | rangeRefused ht => exact ht ▸ h.refuse fun k => nomatch k
  | started hb hl ht => exact ht ▸ h.clearForStart hb hl
  | wroteIn a bytes hl ht => exact ht ▸ h.writeIn hl
  | didRead d n ht => exact ht ▸ h.hostFields s.inbox d n
  | didReset ht => exact ht ▸ inv_reset _ _ _ _ _ _
  | waited e => exact h.seqStep e

/-- Settles O54: by the ways a step answers a next state, each of which keeps the invariant. -/
theorem stepKeepsInvariant : Obligations.StepKeepsInvariant := by
  intro s t h e
  rcases step_next e with rfl | ⟨-, e⟩ | ⟨m, rest, -, e⟩
  · exact h.refuse fun k => nomatch k
  · exact h.seqStep e
  · exact (h.hostFields rest s.hostData s.draws).hostMove e

end Sys2Proof.Machine
end

section
/-! Words written out from the spec (R23, R92 to R98). -/

namespace Sys2Proof

/-- Settles O1: the decoder evaluates each list of bytes, whatever the parameters are. -/
theorem specWordsDecode : Obligations.SpecWordsDecode :=
  fun _ => ⟨rfl, rfl, rfl, rfl, rfl, rfl, rfl, rfl, rfl, rfl⟩

end Sys2Proof
end

section
/-! The host's registers, number by number (R22 to R34, R48). -/

namespace Sys2Proof.Machine

/-- From 0x12 upward every register number is reserved (R48). -/
theorem readReg_reserved (s : State) {n : Nat} (h : 0x12 ≤ n) : readReg s n = 0 := by
  obtain ⟨k, rfl⟩ := Nat.exists_eq_add_of_le' h
  rfl

theorem writeReg_ignored (s : State) {n : Nat} (v : Word) (h0 : n ≠ 0) (h3 : n ≠ 3) : writeReg n v s = .next s := by
  unfold writeReg
  split
  · exact absurd rfl h0
  · exact absurd rfl h3
  · rfl

theorem writeReg_inLen (s : State) (v : Word) (hb : s.phase.busy = false) :
    writeReg 3 v s = .next { s with inLen := v } := by
  simp only [writeReg, writeInLen, hb, Bool.false_eq_true, if_false]

/-- Settles O12: CTRL by its bit 0; START does not use the other bits it carries. -/
theorem ctrlRegister : Obligations.CtrlRegister := by
  intro s v
  have hw : hostMove (.writeReg 0 v) s = writeCtrl v s := rfl
  rw [hw, writeCtrl_eq]
  refine ⟨fun h => ?_, fun h => ?_, rfl⟩
  · rw [h]
    rfl
  · rw [h]
    rfl

/-- Settles O14: a read and the three kinds of register write, each by its own rule. -/
theorem hostRegisterAccess : Obligations.HostRegisterAccess := fun s _ =>
  ⟨rfl, fun v => writeReg_ignored s v, fun v => writeReg_inLen s v, readReg_reserved s⟩

theorem ErrKind.code_lt (k : ErrKind) : k.code < 4 := by
  cases k <;> decide

/-- ERR as a number (R25). -/
theorem errWord_toNat (e : Err) : (errWord e).toNat = e.kind.code + 256 * e.cause.toNat := by
  have hk := e.kind.code_lt
  have hc := e.cause.isLt
  rw [errWord, BitVec.toNat_ofNat, Nat.mod_eq_of_lt (by omega)]

/-- A 32-bit register in a 64-bit read keeps its value (R22). -/
theorem zeroExtend_toNat (x : Word) : (x.setWidth 64).toNat = x.toNat :=
  BitVec.toNat_setWidth_of_le (by decide)

/-- Settles O15: the packed words as numbers, then their literals by cases, then the registers of one value. -/
theorem registerMap : Obligations.RegisterMap := by
  intro s
  have hs : readReg s 1 = statusWord s.phase := rfl
  have he : (readReg s 2).toNat = s.err.kind.code + 256 * s.err.cause.toNat := errWord_toNat s.err
  have hkind := s.err.kind.code_lt
  have hc : readReg s 4 = contWord s.wrapped s.sizeMatch := rfl
  have hv : readReg s 12 = BitVec.ofNat 64 (variantCode s.variant) := rfl
  refine ⟨?_, ?_, ?_, ?_, ?_, ⟨?_, ?_, ?_⟩, ?_, ?_⟩
  · rw [hs]
    refine ⟨?_, ?_, ?_, ?_, ?_, ?_, ?_⟩ <;> (intro h; rw [h]; rfl)
  · cases s.phase <;> decide
  · rw [he]
    refine ⟨?_, ?_, ?_, ?_⟩ <;> (intro h; rw [h]; rfl)
  · rw [hv]
    refine ⟨?_, ?_, ?_, ?_⟩ <;> (intro h; rw [h]; rfl)
  · rw [hs]
    cases s.phase <;> decide
  · omega
  · omega
  · omega
  · rw [hc]
    cases s.wrapped <;> cases s.sizeMatch <;> decide
  · have variantWord : (readReg s 12).toNat = variantCode s.variant := by
      rw [hv]
      cases s.variant <;> rfl
    exact ⟨zeroExtend_toNat _, zeroExtend_toNat _, zeroExtend_toNat _, zeroExtend_toNat _, zeroExtend_toNat _,
      zeroExtend_toNat _, zeroExtend_toNat _, zeroExtend_toNat _, variantWord, zeroExtend_toNat _, zeroExtend_toNat _,
      zeroExtend_toNat _, rfl, rfl⟩

/-- Settles O52: every register of the state after reset reads 0, the packed ones too. -/
theorem resetState : Obligations.ResetState := by
  refine ⟨rfl, fun n => ?_, rfl, fun a => ⟨rfl, rfl⟩⟩
  unfold readReg
  split <;> rfl

end Sys2Proof.Machine
end

section
/-! The sequencer always has a next state in a run (R63, R109, R250, R276). -/

namespace Sys2Proof.Machine

/-- A block operation, PIXWR and ADVANCE complete wherever the blocks are ready (R63, R109, R250). -/
theorem decodeStep_progress {s : State} (h : Inv s) (hp : s.phase = .decode) : ∃ t, decodeStep s = .next t := by
  obtain ⟨g, b, hk⟩ := h.decodeReady hp
  obtain ⟨d, m, -, e, -⟩ := decodeStep_spec s g b h.blockSize hk hp
  exact ⟨_, e⟩

/-- Whatever the input is, the UNWRAP phase completes: an error is a next state too (R271, R276). -/
theorem unwrapStep_progress (s : State) : ∃ t, unwrapStep s = .next t := by
  rw [unwrapStep]
  by_cases hm : BeginsWithMagic s
  · rw [(containerOp_eq s).1 hm]
    rcases exec_unwrap_cases s with ⟨_, -, -, e | e⟩ | ⟨-, e⟩ <;> exact ⟨_, e⟩
  · rw [(containerOp_eq s).2 hm]
    exact ⟨_, rfl⟩

theorem exec_parseHdr_progress (s : State) : ∃ t, exec .parseHdr s = .next t := by
  rcases exec_parseHdr_cases s with ⟨_, -, e⟩ | ⟨-, e⟩ <;> exact ⟨_, e⟩

theorem checkStep_progress (s : State) (hp : s.phase = .check) (hr : s.refused ≠ some .outCap) :
    ∃ t, checkStep s = .next t := by
  rcases checkStep_cases s hp hr with ⟨-, e⟩ | ⟨-, -, e⟩ | ⟨-, -, e⟩ <;> exact ⟨_, e⟩

/-- The sequencer's progress, by the phase; DECODE alone needs the invariant. -/
theorem seqStep_progress {s : State} (h : Inv s) (hr : s.refused ≠ some .outCap) : ∃ t, seqStep s = .next t := by
  cases hp : s.phase with
  | idle | done | error => exact ⟨s, seqStep_waiting s (hp ▸ rfl)⟩
  | unwrap => exact seqStep_unwrap s hp ▸ unwrapStep_progress s
  | parse => exact seqStep_parse s hp ▸ exec_parseHdr_progress s
  | check => exact seqStep_check s hp hr ▸ checkStep_progress s hp hr
  | decode => exact seqStep_decode s hp ▸ decodeStep_progress h hp

/-- Settles O55: a quiet step is the sequencer's, which has a next state in every phase. -/
theorem sequencerNeverFaults : Obligations.SequencerNeverFaults :=
  fun s h q hr => step_quiet s q ▸ seqStep_progress h hr

end Sys2Proof.Machine
end

section
/-! The pixels of the image and the blocks that hold them (R253): each pixel of the image is one shown pixel of one
block, and the bytes of two of them are apart. -/

namespace Sys2Proof.Machine

/-- (x, y) is a pixel of the image. -/
def InImage (s : State) (x y : Nat) : Prop := x < s.width.toNat ∧ y < s.height.toNat

/-- Where OUT holds pixel (x, y) of the image (R70). -/
def imageAddr (s : State) (x y : Nat) : Nat := 4 * (y * s.width.toNat + x)

theorem pixelAddr_eq_imageAddr (s : State) (i : Fin 16) :
    pixelAddr s i = imageAddr s (pixelX s i) (pixelY s i) := rfl

/-- Each pixel PIXWR writes for block BLK lies in block BLK (R246, R253). -/
theorem blockOf_pixel (s : State) (i : Fin 16) : blockOf s (pixelX s i) (pixelY s i) = s.blk.toNat := by
  have hx : pixelX s i / 4 = s.blk.toNat % s.bw.toNat := by
    simp only [pixelX]
    omega
  have hy : pixelY s i / 4 = s.blk.toNat / s.bw.toNat := by
    simp only [pixelY]
    omega
  rw [blockOf, hx, hy, Nat.div_add_mod']

/-- A column of the image lies in a column of the grid, and a row in a row. -/
theorem div_four_lt_ceil4 {x n : Nat} (h : x < n) : x / 4 < ceil4 n := by
  unfold ceil4
  omega

/-- PIXWR of block k writes each pixel of the image that block k holds, at that pixel's place in the block (R253). -/
theorem pixel_of_blockOf (s : State) (g : GridReady s) {x y : Nat} (hx : x < s.width.toNat)
    (h : blockOf s x y = s.blk.toNat) :
    pixelX s (slotInBlock x y) = x ∧ pixelY s (slotInBlock x y) = y := by
  have hb : x / 4 < s.bw.toNat := g.bw ▸ div_four_lt_ceil4 hx
  have hm : s.blk.toNat % s.bw.toNat = x / 4 := by
    rw [← h, blockOf, Nat.mul_add_mod_of_lt hb]
  have hd : s.blk.toNat / s.bw.toNat = y / 4 := by
    rw [← h, blockOf, Nat.mul_comm, Nat.mul_add_div (by omega), Nat.div_eq_of_lt hb, Nat.add_zero]
  simp only [pixelX, pixelY, hm, hd, slotInBlock]
  omega

/-- The block of a pixel of the image is a block of the grid (R253). -/
theorem blockOf_lt (s : State) (g : GridReady s) {x y : Nat} (h : InImage s x y) : blockOf s x y < s.nblk.toNat := by
  obtain ⟨hx, hy⟩ := h
  rw [blockOf, g.bw, g.nblk]
  exact rowMajor_lt _ _ _ _ (div_four_lt_ceil4 hx) (div_four_lt_ceil4 hy)

/-- The bytes of two pixels of the image in different blocks are apart (R70). -/
theorem imageAddr_apart (s : State) {x y x' y' : Nat} (h : InImage s x y) (h' : InImage s x' y')
    (hne : blockOf s x y ≠ blockOf s x' y') :
    imageAddr s x y + 4 ≤ imageAddr s x' y' ∨ imageAddr s x' y' + 4 ≤ imageAddr s x y := by
  have hi : y * s.width.toNat + x ≠ y' * s.width.toNat + x' := fun e => by
    obtain ⟨rfl, rfl⟩ := rowMajor_inj _ _ _ _ _ h.1 h'.1 e
    exact hne rfl
  simp only [imageAddr]
  omega

/-- Every pixel of the image lies below WIDTH*HEIGHT*4 (R74). -/
theorem imageAddr_lt (s : State) {x y : Nat} (h : InImage s x y) :
    imageAddr s x y + 4 ≤ s.width.toNat * s.height.toNat * 4 := by
  have := rowMajor_lt _ _ _ _ h.1 h.2
  simp only [imageAddr]
  omega

end Sys2Proof.Machine
end

section
/-! The DECODE phase as a whole: each step writes the pixels of one block, and NBLK of them the image (R245 to R255). -/

namespace Sys2Proof.Machine

/-- t differs from s in nothing but the datapath, OUT, BLK and PHASE: what DECODE steps write (R245). -/
def DecodedFrom (s t : State) : Prop :=
  OnlyDatapath { s with output := t.output, blk := t.blk, phase := t.phase } t

theorem DecodedFrom.trans {s t u : State} (h1 : DecodedFrom s t) (h2 : DecodedFrom t u) : DecodedFrom s u := by
  unfold DecodedFrom OnlyDatapath at *
  rw [h2, h1]

/-- DECODE steps change nothing the image the input declares depends on (R255). -/
theorem DecodedFrom.image {s t : State} (h : DecodedFrom s t) (x y : Nat) :
    InImage t x y = InImage s x y ∧ imageAddr t x y = imageAddr s x y ∧ blockOf t x y = blockOf s x y ∧
      imagePixel t x y = imagePixel s x y := by
  unfold DecodedFrom OnlyDatapath at h
  rw [h]
  exact ⟨rfl, rfl, rfl, rfl⟩

theorem DecodedFrom.sizes {s t : State} (h : DecodedFrom s t) :
    t.width = s.width ∧ t.height = s.height ∧ t.nblk = s.nblk ∧ (Quiet s → Quiet t) := by
  unfold DecodedFrom OnlyDatapath at h
  rw [h]
  exact ⟨rfl, rfl, rfl, id⟩

/-- From s to t exactly the pixels of the image in the blocks from lo up to hi were written: OUT holds each of them, and
any byte of none of them reads as before. -/
structure WritesBlocks (lo hi : Nat) (s t : State) : Prop where
  frame : DecodedFrom s t
  holds : ∀ x y, InImage s x y → lo ≤ blockOf s x y → blockOf s x y < hi →
    HoldsPixel t (imageAddr s x y) (imagePixel s x y)
  keeps : ∀ a, (∀ x y, InImage s x y → lo ≤ blockOf s x y → blockOf s x y < hi →
    a < imageAddr s x y ∨ imageAddr s x y + 4 ≤ a) → readOut t a = readOut s a

theorem WritesBlocks.refl (n : Nat) (s : State) : WritesBlocks n n s s where
  frame := rfl
  holds := fun _ _ _ hl hh => absurd hh (Nat.not_lt_of_le hl)
  keeps := fun _ _ => rfl

/-- A pixel stays where the four bytes of it read as before. -/
theorem HoldsPixel.congr {s t : State} {a : Nat} {c : Colour} (h : HoldsPixel s a c)
    (e : ∀ k, k < 4 → readOut t (a + k) = readOut s (a + k)) : HoldsPixel t a c := by
  obtain ⟨hr, hg, hb, ha⟩ := h
  exact ⟨(e 0 (by decide)).trans hr, (e 1 (by decide)).trans hg, (e 2 (by decide)).trans hb,
    (e 3 (by decide)).trans ha⟩

/-- Blocks written later leave the pixels of those written before. -/
theorem WritesBlocks.trans {lo mid hi : Nat} {s t u : State} (h1 : WritesBlocks lo mid s t)
    (h2 : WritesBlocks mid hi t u) (hl : lo ≤ mid) (hh : mid ≤ hi) : WritesBlocks lo hi s u where
  frame := h1.frame.trans h2.frame
  holds := fun x y hin hlo hhi => by
    by_cases hm : blockOf s x y < mid
    · refine (h1.holds x y hin hlo hm).congr fun k hk => h2.keeps _ fun x' y' hin' hlo' _ => ?_
      obtain ⟨ei, ea, eb, -⟩ := h1.frame.image x' y'
      rw [ei] at hin'
      rw [eb] at hlo'
      rw [ea]
      have := imageAddr_apart s hin hin' (by omega)
      omega
    · obtain ⟨ei, ea, eb, ep⟩ := h1.frame.image x y
      rw [← ea, ← ep]
      exact h2.holds x y (ei ▸ hin) (eb ▸ Nat.le_of_not_lt hm) (eb ▸ hhi)
  keeps := fun a ha => by
    have after : readOut u a = readOut t a := h2.keeps a fun x y hin hlo hhi => by
      obtain ⟨ei, ea, eb, -⟩ := h1.frame.image x y
      rw [ei] at hin
      rw [eb] at hlo hhi
      exact ea ▸ ha x y hin (Nat.le_trans hl hlo) hhi
    have before : readOut t a = readOut s a :=
      h1.keeps a fun x y hin hlo hhi => ha x y hin hlo (Nat.lt_of_lt_of_le hhi hh)
    exact after.trans before

/-- A DECODE step writes the pixels of block BLK, and moves BLK on (R245, R250, R251). -/
theorem decodeStep_writes {s : State} (h : Inv s) (hp : s.phase = .decode) :
    ∃ t, decodeStep s = .next t ∧ WritesBlocks s.blk.toNat (s.blk.toNat + 1) s t ∧ t.blk = s.blk + 1 ∧
      t.phase = if s.blk + 1 = s.nblk then .done else .decode := by
  obtain ⟨g, b, hk⟩ := h.decodeReady hp
  obtain ⟨d, m, ho, e, -, -, hkeep, hhold⟩ := decodeStep_spec s g b h.blockSize hk hp
  unfold OnlyDatapath at ho
  have same : ∀ a, readOut { d with
      output := m, blk := s.blk + 1, phase := if s.blk + 1 = s.nblk then .done else .decode } a =
      readOut { s with output := m } a := fun a => by
    rw [ho]
    rfl
  refine ⟨_, e, ⟨?_, fun x y hin hlo hhi => ?_, fun a ha => ?_⟩, rfl, rfl⟩
  · unfold DecodedFrom OnlyDatapath
    rw [ho]
  · have hblk : blockOf s x y = s.blk.toNat := by omega
    obtain ⟨ex, ey⟩ := pixel_of_blockOf s g hin.1 hblk
    have hpix := hhold (slotInBlock x y) ((pixelShown_iff s _).mpr (by rw [ex, ey]; exact hin))
    rw [pixelAddr_eq_imageAddr, ex, ey, ← hblk] at hpix
    exact hpix.congr fun k _ => same _
  · have hm : memGet m a = memGet s.output a := hkeep a fun i hi => by
      have hb := blockOf_pixel s i
      exact ha _ _ ((pixelShown_iff s i).mp hi) (by omega) (by omega)
    rw [same, readOut, hm]
    rfl

/-- From a DECODE step's start, or DONE, as many steps as blocks are left lead to DONE and write those blocks (R256). -/
theorem run_decode_writes (n : Nat) : ∀ s : State, Inv s → Quiet s → s.phase = .decode ∨ s.phase = .done →
    s.blk.toNat + n = s.nblk.toNat →
    ∃ t : State, Host.Core.run Sys2Proof.core n s = .next t ∧ t.phase = .done ∧
      WritesBlocks s.blk.toNat s.nblk.toNat s t := by
  induction n with
  | zero =>
    intro s h q hp hn
    have hd : s.phase = .done := hp.resolve_left fun hp => by
      obtain ⟨-, -, hk⟩ := h.decodeReady hp
      omega
    have hb : s.blk.toNat = s.nblk.toNat := hn
    exact ⟨s, rfl, hd, hb ▸ WritesBlocks.refl _ s⟩
  | succ n ih =>
    intro s h q hp hn
    have hd : s.phase = .decode := hp.resolve_right fun hp => by
      obtain ⟨-, hk, -⟩ := h.doneReady hp
      rw [hk] at hn
      omega
    obtain ⟨t, e, w, hblk, hph⟩ := decodeStep_writes h hd
    obtain ⟨-, -, hnblk, hq⟩ := w.frame.sizes
    have hnext : t.blk.toNat = s.blk.toNat + 1 := by
      rw [hblk]
      bv_omega
    have hp' : t.phase = .decode ∨ t.phase = .done := by
      rw [hph]
      split
      · exact Or.inr rfl
      · exact Or.inl rfl
    obtain ⟨u, e', hu, w'⟩ := ih t (h.decodeStep hd e) (hq q) hp' (by rw [hnblk]; omega)
    refine ⟨u, (run_succ n s t ((step_decode s q hd).trans e)).trans e', hu, ?_⟩
    rw [hnext, hnblk] at w'
    exact w.trans w' (by omega) (by omega)

/-- Settles O60: the run from block 0 writes every block, and each pixel of the image is in one of them. -/
theorem outputIsDecodedImage : Obligations.OutputIsDecodedImage := by
  intro s h q hp h0
  obtain ⟨g, -, -⟩ := h.decodeReady hp
  have hz : s.blk.toNat = 0 := by rw [h0]; rfl
  obtain ⟨t, e, hd, w⟩ := run_decode_writes s.nblk.toNat s h q (Or.inl hp) (by omega)
  rw [hz] at w
  obtain ⟨hw, hh, -, -⟩ := w.frame.sizes
  refine ⟨t, e, hd, hw, hh, fun x y hx hy => ?_, fun a ha => w.keeps a fun x y hin _ _ => ?_⟩
  · exact w.holds x y ⟨hx, hy⟩ (Nat.zero_le _) (blockOf_lt s g ⟨hx, hy⟩)
  · exact Or.inr (Nat.le_trans (imageAddr_lt s hin) ha)

end Sys2Proof.Machine
end

section
/-! The host's accesses to the two byte spaces (R60, R61, R302 to R305). -/

namespace Sys2Proof.Machine

/-- A byte the host has just written reads back. -/
theorem readIn_memPutAll_inside (s : State) (a : Nat) (bytes : List Byte) (j : Nat) (h : j < bytes.length) :
    readIn { s with input := memPutAll s.input a bytes } (a + j) = bytes[j] := by
  simp only [readIn, memGet_memPutAll_inside s.input bytes a j h]

/-- A write of IN leaves every address beside it. -/
theorem readIn_memPutAll_other (s : State) (a : Nat) (bytes : List Byte) (x : Nat)
    (h : x < a ∨ a + bytes.length ≤ x) : readIn { s with input := memPutAll s.input a bytes } x = readIn s x := by
  simp only [readIn, memGet_memPutAll_other s.input bytes a x h]

theorem writeInput_busy (a : Nat) (bytes : List Byte) (s : State) (hb : s.phase.busy = true) :
    writeInput a bytes s = .fault .inHazard := if_pos hb

theorem writeInput_waiting (a : Nat) (bytes : List Byte) (s : State) (hb : s.phase.busy = false) :
    writeInput a bytes s = if a + bytes.length ≤ s.cfg.inMax.toNat then
      .next { s with input := memPutAll s.input a bytes } else .fault .inAddress := by
  simp only [writeInput, hb, Bool.false_eq_true, if_false]

/-- Settles O49: a write is refused by BUSY, then by IN_MAX, and otherwise is the write of consecutive bytes. -/
theorem hostWritesInput : Obligations.HostWritesInput := by
  intro s a bytes
  have hw : hostMove (.writeIn a bytes) s = writeInput a bytes s := rfl
  rw [hw]
  refine ⟨writeInput_busy a bytes s, fun hb hl => ?_, fun hb hl => ?_⟩
  · rw [writeInput_waiting a bytes s hb, if_neg (Nat.not_le_of_lt hl)]
  · rw [writeInput_waiting a bytes s hb, if_pos hl]
    exact ⟨_, rfl, rfl, readIn_memPutAll_inside s a bytes, readIn_memPutAll_other s a bytes⟩

theorem readOutput_noAddress (a : Nat) (s : State) (h : s.cfg.outCap ≤ a) :
    readOutput a s = .fault .outAddress := if_pos h

theorem readOutput_of_lt (a : Nat) (s : State) (h : a < s.cfg.outCap) :
    readOutput a s = if s.phase.busy then
      .next { s with hostData := (Config.freeBusy s.draws).setWidth 64, draws := s.draws + 1 }
    else .next { s with hostData := (readOut s a).setWidth 64 } :=
  if_neg (Nat.not_le_of_lt h)

/-- Settles O50: a read is refused by OUT_CAP, then answered by BUSY. -/
theorem hostReadsOutput : Obligations.HostReadsOutput := by
  intro s a
  have hr : hostMove (.readOut a) s = readOutput a s := rfl
  rw [hr]
  refine ⟨readOutput_noAddress a s, fun h hb => ?_, fun h hb => ?_⟩
  · rw [readOutput_of_lt a s h, if_pos hb]
  · rw [readOutput_of_lt a s h, hb]
    rfl

end Sys2Proof.Machine
end

section
/-! The fields of the formats: what is read from the bytes of a field, and the bytes of what is read (R12, R95 to R98). -/

namespace Sys2Proof

/-- Where the bytes of a value stand, reading the field gives the value. -/
theorem halfAt_of_slice {bs : List Byte} {a : Nat} {x : Half} (h : slice bs a 2 = leBytes 2 x.toNat) :
    halfAt bs a = x := by
  rw [halfAt, h, ofNat_le_leBytes 16 2 x rfl]

theorem wordAt_of_slice {bs : List Byte} {a : Nat} {x : Word} (h : slice bs a 4 = leBytes 4 x.toNat) :
    wordAt bs a = x := by
  rw [wordAt, h, ofNat_le_leBytes 32 4 x rfl]

theorem aidxAt_of_slice {bs : List Byte} {a : Nat} {x : BitVec 48} (h : slice bs a 6 = leBytes 6 x.toNat) :
    aidxAt bs a = x := by
  rw [aidxAt, h, ofNat_le_leBytes 48 6 x rfl]

theorem longAt_of_slice {bs : List Byte} {a : Nat} {x : Long} (h : slice bs a 8 = leBytes 8 x.toNat) :
    longAt bs a = x := by
  rw [longAt, h, ofNat_le_leBytes 64 8 x rfl]

theorem byteAt_of_slice {bs : List Byte} {a : Nat} {x : Byte} (h : slice bs a 1 = [x]) : byteAt bs a = x := by
  simp [byteAt, h, le]

/-- A byte read from a list is the slice of that one byte. -/
theorem singleton_byteAt (bs : List Byte) (a : Nat) (h : a + 1 ≤ bs.length) : [byteAt bs a] = slice bs a 1 := by
  obtain ⟨b, hb⟩ := List.length_eq_one_iff.mp (slice_length bs a 1 h)
  rw [byteAt_of_slice hb, hb]

/-- The bytes of a colour half's fields are its eight bytes (R95). -/
theorem cblkBytes_fields (bs : List Byte) (a : Nat) (h : a + 8 ≤ bs.length) :
    cblkBytes (halfAt bs a) (halfAt bs (a + 2)) (wordAt bs (a + 4)) = slice bs a 8 := by
  have h0 := leBytes_ofNat_le 16 2 _ (slice_length bs a 2 (by omega)) rfl
  have h1 := leBytes_ofNat_le 16 2 _ (slice_length bs (a + 2) 2 (by omega)) rfl
  have hi := leBytes_ofNat_le 32 4 _ (slice_length bs (a + 4) 4 (by omega)) rfl
  rw [cblkBytes, halfAt, halfAt, wordAt, h0, h1, hi, slice_append_slice bs (a + 2) 2 4, slice_append_slice bs a 2 6]

theorem tooShort_eq_false {bs : List Byte} {n : Nat} (h : n ≤ bs.length) : tooShort bs n = false := by
  rw [← Bool.not_eq_true, tooShort_iff]
  omega

/-! A block of its variant's length or more: the operation with its fields (R95 to R98). -/

theorem decode_block_dxt1 (c : Config) {bs : List Byte} (h : 8 ≤ bs.length) :
    decode c (.block .dxt1) bs = .ok (.decDxt1 (halfAt bs 0) (halfAt bs 2) (wordAt bs 4)) := by
  simp only [decode, decodeBlock, tooShort_eq_false h, Bool.false_eq_true, if_false]

theorem decode_block_dxt3 (c : Config) {bs : List Byte} (h : 16 ≤ bs.length) :
    decode c (.block .dxt3) bs = .ok (.decDxt3 (longAt bs 0) (halfAt bs 8) (halfAt bs 10) (wordAt bs 12)) := by
  simp only [decode, decodeBlock, tooShort_eq_false h, Bool.false_eq_true, if_false]

theorem decode_block_dxt5 (c : Config) {bs : List Byte} (h : 16 ≤ bs.length) :
    decode c (.block .dxt5) bs =
      .ok (.decDxt5 (byteAt bs 0) (byteAt bs 1) (aidxAt bs 2) (halfAt bs 8) (halfAt bs 10) (wordAt bs 12)) := by
  simp only [decode, decodeBlock, tooShort_eq_false h, Bool.false_eq_true, if_false]

/-! The bytes of a block's fields are the block: no bit of it is lost (R109). -/

theorem encode_fields_dxt1 (c : Config) {bs : List Byte} (h : bs.length = 8) :
    encode c (.decDxt1 (halfAt bs 0) (halfAt bs 2) (wordAt bs 4)) = bs := by
  calc cblkBytes (halfAt bs 0) (halfAt bs 2) (wordAt bs 4)
      = slice bs 0 8 := cblkBytes_fields bs 0 (by omega)
    _ = bs := h ▸ slice_full bs

theorem encode_fields_dxt3 (c : Config) {bs : List Byte} (h : bs.length = 16) :
    encode c (.decDxt3 (longAt bs 0) (halfAt bs 8) (halfAt bs 10) (wordAt bs 12)) = bs := by
  have hcol := cblkBytes_fields bs 8 (by omega)
  have hal := leBytes_ofNat_le 64 8 _ (slice_length bs 0 8 (by omega)) rfl
  calc leBytes 8 (longAt bs 0).toNat ++ cblkBytes (halfAt bs 8) (halfAt bs 10) (wordAt bs 12)
      = slice bs 0 8 ++ slice bs 8 8 := by rw [hcol, longAt, hal]
    _ = slice bs 0 16 := slice_append_slice bs 0 8 8
    _ = bs := h ▸ slice_full bs

theorem encode_fields_dxt5 (c : Config) {bs : List Byte} (h : bs.length = 16) :
    encode c (.decDxt5 (byteAt bs 0) (byteAt bs 1) (aidxAt bs 2) (halfAt bs 8) (halfAt bs 10) (wordAt bs 12)) =
      bs := by
  have hcol := cblkBytes_fields bs 8 (by omega)
  have hidx := leBytes_ofNat_le 48 6 _ (slice_length bs 2 6 (by omega)) rfl
  have h0 := singleton_byteAt bs 0 (by omega)
  have h1 := singleton_byteAt bs 1 (by omega)
  calc [byteAt bs 0] ++ ([byteAt bs 1] ++
        (leBytes 6 (aidxAt bs 2).toNat ++ cblkBytes (halfAt bs 8) (halfAt bs 10) (wordAt bs 12)))
      = slice bs 0 1 ++ (slice bs 1 1 ++ (slice bs 2 6 ++ slice bs 8 8)) := by rw [hcol, aidxAt, hidx, h0, h1]
    _ = slice bs 0 16 := by
      rw [slice_append_slice bs 2 6 8, slice_append_slice bs 1 1 14, slice_append_slice bs 0 1 15]
    _ = bs := h ▸ slice_full bs

/-- A block of exactly its variant's length decodes to an operation whose encoding is that block. -/
theorem encode_of_decode_block (c : Config) {v : Variant} {bs : List Byte} {i : Instr}
    (hl : bs.length = blockBytes v) (h : decode c (.block v) bs = .ok i) : encode c i = bs := by
  cases v with
  | unset => cases h
  | dxt1 =>
    cases (decode_block_dxt1 c (Nat.le_of_eq hl.symm)).symm.trans h
    exact encode_fields_dxt1 c hl
  | dxt3 =>
    cases (decode_block_dxt3 c (Nat.le_of_eq hl.symm)).symm.trans h
    exact encode_fields_dxt3 c hl
  | dxt5 =>
    cases (decode_block_dxt5 c (Nat.le_of_eq hl.symm)).symm.trans h
    exact encode_fields_dxt5 c hl

/-- Settles O3: `block_spec` gives the operation and its pixels, and its encoding is the block it was read from. -/
theorem blockEncodingsAreTotal : Obligations.BlockEncodingsAreTotal := by
  intro c v bs s hv hl
  obtain ⟨i, t, hd, hx, ho, hpix⟩ := Machine.block_spec c v bs s hv (Nat.le_of_eq hl.symm)
  exact ⟨i, t, hd, encode_of_decode_block c hl hd, hx, hpix, ho⟩

end Sys2Proof
end

section
/-! The variant level (R105): the operation two words select, and what every selected operation passes. -/

namespace Sys2Proof

theorem variantOp_dxt1 {pf : Word} (h : Fmt.hasFourcc pf = true) : variantOp pf Fmt.dxt1 = .selDxt1 pf := by
  have hv : variantOf pf Fmt.dxt1 = .dxt1 := by rw [variantOf, if_pos h, if_pos rfl]
  rw [variantOp, hv]

theorem variantOp_dxt3 {pf : Word} (h : Fmt.hasFourcc pf = true) : variantOp pf Fmt.dxt3 = .selDxt3 pf := by
  have hv : variantOf pf Fmt.dxt3 = .dxt3 := by rw [variantOf, if_pos h, if_neg (by decide), if_pos rfl]
  rw [variantOp, hv]

theorem variantOp_dxt5 {pf : Word} (h : Fmt.hasFourcc pf = true) : variantOp pf Fmt.dxt5 = .selDxt5 pf := by
  have hv : variantOf pf Fmt.dxt5 = .dxt5 := by
    rw [variantOf, if_pos h, if_neg (by decide), if_neg (by decide), if_pos rfl]
  rw [variantOp, hv]

theorem supportedFourcc_eq_false_iff (f : Word) :
    supportedFourcc f = false ↔ f ≠ Fmt.dxt1 ∧ f ≠ Fmt.dxt3 ∧ f ≠ Fmt.dxt5 := by
  simp [supportedFourcc, and_assoc]

theorem variantOp_unsupFourcc {pf f : Word} (h : Fmt.hasFourcc pf = true) (hf : supportedFourcc f = false) :
    variantOp pf f = .selUnsupFourcc pf f := by
  obtain ⟨h1, h3, h5⟩ := (supportedFourcc_eq_false_iff f).mp hf
  have hv : variantOf pf f = .unset := by rw [variantOf, if_pos h, if_neg h1, if_neg h3, if_neg h5]
  rw [variantOp, hv]
  exact if_pos h

theorem variantOp_unsupNofourcc {pf : Word} (f : Word) (h : Fmt.hasFourcc pf = false) :
    variantOp pf f = .selUnsupNofourcc pf f := by
  have hn : ¬ Fmt.hasFourcc pf = true := by simp [h]
  have hv : variantOf pf f = .unset := by rw [variantOf, if_neg hn]
  rw [variantOp, hv]
  exact if_neg hn

/-- Header bytes 80 to 87 select by the two words they hold (R104 item 3). -/
theorem decode_variant_words (c : Config) (pf f : Word) :
    decode c .variant (leBytes 4 pf.toNat ++ leBytes 4 f.toNat) = .ok (variantOp pf f) := by
  have hs : tooShort (leBytes 4 pf.toNat ++ leBytes 4 f.toNat) 8 = false := rfl
  have hpf : wordAt (leBytes 4 pf.toNat ++ leBytes 4 f.toNat) 0 = pf := wordAt_of_slice rfl
  have hf : wordAt (leBytes 4 pf.toNat ++ leBytes 4 f.toNat) 4 = f := wordAt_of_slice rfl
  simp only [decode, hs, hpf, hf, Bool.false_eq_true, if_false]

/-- Settles O4: the words are read back, and each row is one case of `variantOp`. -/
theorem variantTable : Obligations.VariantTable := by
  intro c pf f
  simp only [decode_variant_words]
  refine ⟨fun h e => ?_, fun h e => ?_, fun h e => ?_, fun h h1 h3 h5 => ?_, fun h => ?_⟩
  · rw [show f = Fmt.dxt1 from e, variantOp_dxt1 h]
  · rw [show f = Fmt.dxt3 from e, variantOp_dxt3 h]
  · rw [show f = Fmt.dxt5 from e, variantOp_dxt5 h]
  · rw [variantOp_unsupFourcc h ((supportedFourcc_eq_false_iff f).mpr ⟨h1, h3, h5⟩)]
  · rw [variantOp_unsupNofourcc f h]

/-- The words that select a variant operation pass its check, whichever row of R105 they fall under. -/
theorem variantOp_wellFormed (pf f : Word) : (variantOp pf f).wellFormed = true := by
  cases h : Fmt.hasFourcc pf with
  | false =>
    rw [variantOp_unsupNofourcc f h]
    simp [Instr.wellFormed, h]
  | true =>
    cases hf : supportedFourcc f with
    | false =>
      rw [variantOp_unsupFourcc h hf]
      simp [Instr.wellFormed, h, hf]
    | true =>
      have hs : f = Fmt.dxt1 ∨ f = Fmt.dxt3 ∨ f = Fmt.dxt5 := by
        simpa [supportedFourcc, or_assoc] using hf
      rcases hs with rfl | rfl | rfl
      · rw [variantOp_dxt1 h]
        exact h
      · rw [variantOp_dxt3 h]
        exact h
      · rw [variantOp_dxt5 h]
        exact h

theorem containerOp_wellFormed (c : Config) (bs : List Byte) : (containerOp c bs).wellFormed = true := by
  unfold containerOp
  split <;> rfl

/-- A block operation has no check of its own. -/
theorem decodeBlock_wellFormed {v : Variant} {bs : List Byte} {i : Instr} (h : decodeBlock v bs = .ok i) :
    i.wellFormed = true := by
  cases v with
  | unset => cases h
  | dxt1 | dxt3 | dxt5 =>
    simp only [decodeBlock] at h
    split at h <;> cases h
    rfl

/-- Settles O5: the variant level passes its check by `variantOp_wellFormed`, and no other place picks an operation that
has one. -/
theorem decodedIsWellFormed : Obligations.DecodedIsWellFormed := by
  intro c slot bs i h
  cases slot with
  | variant =>
    simp only [decode] at h
    split at h <;> cases h
    exact variantOp_wellFormed _ _
  | container =>
    cases h
    exact containerOp_wellFormed c bs
  | block v => exact decodeBlock_wellFormed h
  | ctrl | stream | alphaPalette =>
    simp only [decode] at h
    split at h
    · cases h
    · split at h <;> cases h <;> rfl
  | palette v =>
    simp only [decode] at h
    split at h
    · cases h
    · split at h
      · cases h
      · split at h <;> cases h <;> rfl
  | alphas v =>
    cases v <;> cases h <;> rfl
  | grid | trunc | cap | channel5 | channel6 | endpoint | colours | pixels | cursor =>
    cases h
    rfl

end Sys2Proof
end

section
/-! The round trip: what each operation's encoding picks at its place (R104 to R106). -/

namespace Sys2Proof

/-- A CTRL word picks START by its bit 0, and START carries the rest (R23). -/
theorem decode_ctrl_word (c : Config) (v : Word) :
    decode c .ctrl (leBytes 4 v.toNat) =
      if v.getLsbD 0 then .ok (.start (v.extractLsb' 1 31)) else .error .noStrobe := by
  have hs : tooShort (leBytes 4 v.toNat) 4 = false := rfl
  simp only [decode, hs, Machine.wordAt_leBytes, Bool.false_eq_true, if_false]

theorem decode_encode_start (c : Config) (hi : BitVec 31) :
    decode c .ctrl (encode c (.start hi)) = .ok (.start hi) := by
  have hb := hi.isLt
  have hw : (BitVec.ofNat 32 (2 * hi.toNat + 1)).toNat = 2 * hi.toNat + 1 :=
    Nat.mod_eq_of_lt (by omega)
  have hbit : (BitVec.ofNat 32 (2 * hi.toNat + 1)).getLsbD 0 = true := by
    rw [BitVec.getLsbD, hw]
    simp [Nat.testBit_zero]
  have hrest : (BitVec.ofNat 32 (2 * hi.toNat + 1)).extractLsb' 1 31 = hi := by
    apply BitVec.eq_of_toNat_eq
    rw [BitVec.extractLsb'_toNat, hw, Nat.shiftRight_eq_div_pow]
    omega
  rw [encode, ← hw, decode_ctrl_word, hbit, hrest]
  rfl

theorem decode_encode_unwrap (c : Config) : decode c .container (encode c .unwrap) = .ok .unwrap := by
  have h : slice (magicBytes c) 0 9 = magicBytes c := magicBytes_length c ▸ slice_full (magicBytes c)
  rw [encode, decode, containerOp, if_pos h]

/-- No byte at all is not MAGIC, which has nine. -/
theorem decode_encode_passthru (c : Config) : decode c .container (encode c .passthru) = .ok .passthru := by
  have h : slice [] 0 9 ≠ magicBytes c := fun e => by
    have hl := magicBytes_length c
    rw [← e] at hl
    cases hl
  rw [encode, decode, containerOp, if_neg h]

theorem decode_encode_decDxt1 (c : Config) (c0 c1 : Half) (cidx : Word) :
    decode c (.block .dxt1) (encode c (.decDxt1 c0 c1 cidx)) = .ok (.decDxt1 c0 c1 cidx) := by
  rw [decode_block_dxt1 c (Nat.le_of_eq (Laws.EncodeLength.decDxt1 c0 c1 cidx c).symm),
    halfAt_of_slice (x := c0) rfl, halfAt_of_slice (x := c1) rfl, wordAt_of_slice (x := cidx) rfl]

theorem decode_encode_decDxt3 (c : Config) (aexp : Long) (c0 c1 : Half) (cidx : Word) :
    decode c (.block .dxt3) (encode c (.decDxt3 aexp c0 c1 cidx)) = .ok (.decDxt3 aexp c0 c1 cidx) := by
  rw [decode_block_dxt3 c (Nat.le_of_eq (Laws.EncodeLength.decDxt3 aexp c0 c1 cidx c).symm),
    longAt_of_slice (x := aexp) rfl,
    halfAt_of_slice (x := c0) rfl, halfAt_of_slice (x := c1) rfl, wordAt_of_slice (x := cidx) rfl]

theorem decode_encode_decDxt5 (c : Config) (a0 a1 : Byte) (aidx : BitVec 48) (c0 c1 : Half) (cidx : Word) :
    decode c (.block .dxt5) (encode c (.decDxt5 a0 a1 aidx c0 c1 cidx)) = .ok (.decDxt5 a0 a1 aidx c0 c1 cidx) := by
  rw [decode_block_dxt5 c (Nat.le_of_eq (Laws.EncodeLength.decDxt5 a0 a1 aidx c0 c1 cidx c).symm),
    byteAt_of_slice (x := a0) rfl, byteAt_of_slice (x := a1) rfl, aidxAt_of_slice (x := aidx) rfl,
    halfAt_of_slice (x := c0) rfl, halfAt_of_slice (x := c1) rfl, wordAt_of_slice (x := cidx) rfl]

/-- Settles O2, operation by operation: those that carry fields are read back from them, and the rest are picked by the
bytes `encode` chose, or by their place alone. -/
theorem decodeOfEncode : Obligations.DecodeOfEncode := by
  intro c i h
  cases i with
  | start hi => exact decode_encode_start c hi
  | unwrap => exact decode_encode_unwrap c
  | passthru => exact decode_encode_passthru c
  | selDxt1 pf => exact (decode_variant_words c pf Fmt.dxt1).trans (congrArg _ (variantOp_dxt1 h))
  | selDxt3 pf => exact (decode_variant_words c pf Fmt.dxt3).trans (congrArg _ (variantOp_dxt3 h))
  | selDxt5 pf => exact (decode_variant_words c pf Fmt.dxt5).trans (congrArg _ (variantOp_dxt5 h))
  | selUnsupFourcc pf f =>
    obtain ⟨hpf, hf⟩ : Fmt.hasFourcc pf = true ∧ supportedFourcc f = false := by simpa [Instr.wellFormed] using h
    exact (decode_variant_words c pf f).trans (congrArg _ (variantOp_unsupFourcc hpf hf))
  | selUnsupNofourcc pf f =>
    have hpf : Fmt.hasFourcc pf = false := by simpa [Instr.wellFormed] using h
    exact (decode_variant_words c pf f).trans (congrArg _ (variantOp_unsupNofourcc f hpf))
  | decDxt1 c0 c1 cidx => exact decode_encode_decDxt1 c c0 c1 cidx
  | decDxt3 aexp c0 c1 cidx => exact decode_encode_decDxt3 c aexp c0 c1 cidx
  | decDxt5 a0 a1 aidx c0 c1 cidx => exact decode_encode_decDxt5 c a0 a1 aidx c0 c1 cidx
  | parseHdr | cpal4 | cpal3 | apal8 | apal6 => rfl
  | grid | truncChk | capChk | exp5 | exp6 | exp565 | clut | aexpl4 | alut | pixwr | advance => rfl

end Sys2Proof
end

section
/-! PARSE_HDR and the input: it reads the signature and the five latched fields, and nothing else of IN (R107, R156). -/

namespace Sys2Proof.Machine

/-- j is a place of the header PARSE_HDR reads: the signature, HEIGHT and WIDTH, MIPCOUNT, PF_FLAGS and FOURCC (R92). -/
def ReadByParse (j : Nat) : Prop := j < 4 ∨ 12 ≤ j ∧ j < 20 ∨ 28 ≤ j ∧ j < 32 ∨ 80 ≤ j ∧ j < 88

theorem inWord_congr {s t : State} {a : Nat} (h : ∀ k, k < 4 → readIn t (a + k) = readIn s (a + k)) :
    inWord t a = inWord s a := by
  have h0 : readIn t a = readIn s a := h 0 (by decide)
  simp only [inWord, h0, h 1 (by decide), h 2 (by decide), h 3 (by decide)]

/-- The field checks read registers alone, so another input passes through them. -/
theorem parseFields_otherInput (s : State) (other : Mem) :
    parseFields { s with input := other } = { parseFields s with input := other } := by
  unfold parseFields
  by_cases hw : s.width = 0
  · rw [if_pos hw, if_pos hw]
    rfl
  rw [if_neg hw, if_neg hw]
  by_cases hh : s.height = 0
  · rw [if_pos hh, if_pos hh]
    rfl
  rw [if_neg hh, if_neg hh]
  cases hf : Fmt.hasFourcc s.pfFlags with
  | false => rfl
  | true => cases hv : variantOf s.pfFlags s.fourcc <;> rfl

section
variable {s : State} {other : Mem}
  (h : ∀ j, ReadByParse j → readIn { s with input := other } (s.base.toNat + j) = readIn s (s.base.toNat + j))
include h

/-- A header word that PARSE_HDR reads is the same in the other input. -/
theorem inWord_otherInput {k : Nat} (hk : ∀ j, j < 4 → ReadByParse (k + j)) :
    inWord { s with input := other } (s.base.toNat + k) = inWord s (s.base.toNat + k) :=
  inWord_congr fun j hj => by
    rw [Nat.add_assoc]
    exact h (k + j) (hk j hj)

/-- The field latch takes the same five fields (R154). -/
theorem latchHeader_otherInput : latchHeader { s with input := other } = { latchHeader s with input := other } := by
  have h12 := inWord_otherInput h (k := 12) (by unfold ReadByParse; omega)
  have h16 := inWord_otherInput h (k := 16) (by unfold ReadByParse; omega)
  have h28 := inWord_otherInput h (k := 28) (by unfold ReadByParse; omega)
  have h80 := inWord_otherInput h (k := 80) (by unfold ReadByParse; omega)
  have h84 := inWord_otherInput h (k := 84) (by unfold ReadByParse; omega)
  simp only [latchHeader_eq, withHeader, h12, h16, h28, h80, h84]

/-- The signature check ends alike (R152). -/
theorem signatureBad_otherInput : signatureBad { s with input := other } = signatureBad s := by
  have hb : inBytes { s with input := other } s.base.toNat 4 = inBytes s s.base.toNat 4 :=
    inBytes_congr s _ _ _ fun x hlo hhi => by
      obtain ⟨j, rfl⟩ := Nat.exists_eq_add_of_le hlo
      exact h j (Or.inl (by omega))
  simp only [signatureBad, hb]
  rfl

end

/-- Settles O24: by the outcomes of PARSE_HDR, whose two length checks read no byte of IN. -/
theorem ignoredHeaderBytes : Obligations.IgnoredHeaderBytes := by
  intro s other h
  have hs := signatureBad_otherInput h
  have hl := latchHeader_otherInput h
  have hn : streamLen { s with input := other } = streamLen s := rfl
  simp only [exec, execParseHdr, hs, hl, hn, parseFields_otherInput]
  split
  · exact ⟨_, rfl, rfl⟩
  · split
    · exact ⟨_, rfl, rfl⟩
    · exact ⟨_, rfl, rfl⟩

end Sys2Proof.Machine
end

section
/-! The container level: which header check of UNWRAP ends it, the step of the UNWRAP phase, and the twenty bytes a
successful UNWRAP rebuilds (R131 to R138). -/

namespace Sys2Proof.Machine

/-! The four ends of UNWRAP, in the order of its checks (R131, R275). -/

theorem exec_unwrap_short (s : State) (h : s.inLen.toNat < 20) :
    exec .unwrap s = .next (raise .formatError 0x01 { s with wrapped := true }) :=
  if_pos h

theorem exec_unwrap_padding (s : State) (h : 20 ≤ s.inLen.toNat) (hp : ¬ PaddingRight s) :
    exec .unwrap s = .next (raise .formatError 0x02 (latchSize { s with wrapped := true })) := by
  have hl : ¬ s.inLen.toNat < contLen := Nat.not_lt.mpr h
  rw [← padOk_iff] at hp
  simp [exec, execUnwrap, hl, hp]

theorem exec_unwrap_tag (s : State) (h : 20 ≤ s.inLen.toNat) (hp : PaddingRight s) (ht : ¬ TagRight s) :
    exec .unwrap s = .next (raise .formatError 0x03 (latchSize { s with wrapped := true })) := by
  have hl : ¬ s.inLen.toNat < contLen := Nat.not_lt.mpr h
  rw [← padOk_iff] at hp
  rw [← tagOk_iff] at ht
  simp [exec, execUnwrap, hl, hp, ht]

theorem exec_unwrap_good (s : State) (h : 20 ≤ s.inLen.toNat) (hp : PaddingRight s) (ht : TagRight s) :
    exec .unwrap s = .next { latchSize { s with wrapped := true } with base := 20, phase := .parse } := by
  have hl : ¬ s.inLen.toNat < contLen := Nat.not_lt.mpr h
  rw [← padOk_iff] at hp
  rw [← tagOk_iff] at ht
  simp [exec, execUnwrap, hl, hp, ht]

/-- What UNWRAP leaves: an error over the container registers it had written by then, or PARSE after both checks of the
header have passed. -/
theorem exec_unwrap_next {s t : State} (e : exec .unwrap s = .next t) :
    (∃ cause m f, t = raise .formatError cause { s with wrapped := true, sizeMatch := m, sizeField := f }) ∨
    (PaddingRight s ∧ TagRight s ∧
      t = { latchSize { s with wrapped := true } with base := 20, phase := .parse }) := by
  by_cases h : s.inLen.toNat < 20
  · cases (exec_unwrap_short s h).symm.trans e
    exact Or.inl ⟨0x01, s.sizeMatch, s.sizeField, rfl⟩
  have h' : 20 ≤ s.inLen.toNat := Nat.not_lt.mp h
  by_cases hp : PaddingRight s
  · by_cases ht : TagRight s
    · cases (exec_unwrap_good s h' hp ht).symm.trans e
      exact Or.inr ⟨hp, ht, rfl⟩
    · cases (exec_unwrap_tag s h' hp ht).symm.trans e
      exact Or.inl ⟨0x03, _, _, rfl⟩
  · cases (exec_unwrap_padding s h' hp).symm.trans e
    exact Or.inl ⟨0x02, _, _, rfl⟩

/-! The turn of the sequencer in UNWRAP, by the first nine bytes of the input (R104 item 1, R242). -/

theorem step_unwrap (s : State) (q : Quiet s) (h : s.phase = .unwrap) : step s = unwrapStep s := by
  rw [step_quiet s q, seqStep_unwrap s h]

theorem step_unwrap_magic (s : State) (q : Quiet s) (h : s.phase = .unwrap) (hm : BeginsWithMagic s) :
    step s = exec .unwrap s := by
  rw [step_unwrap s q h, unwrapStep, (containerOp_eq s).1 hm]

theorem step_unwrap_noMagic (s : State) (q : Quiet s) (h : s.phase = .unwrap) (hm : ¬ BeginsWithMagic s) :
    step s = exec .passthru s := by
  rw [step_unwrap s q h, unwrapStep, (containerOp_eq s).2 hm]

/-! The fields of the container header as bytes of IN (R91). -/

theorem inBytes_append (s : State) (a m n : Nat) :
    inBytes s a (m + n) = inBytes s a m ++ inBytes s (a + m) n := by
  simp only [inBytes, ← List.map_append, List.range'_append_1]

theorem inBytes_magic {s : State} (h : BeginsWithMagic s) : inBytes s 0 9 = magicBytes s.cfg := by
  have hw := (magicWindow_iff s).mpr h
  rwa [magicWindow, Nat.min_eq_left h.1, slice_inBytes s 0 9 0 9 (Nat.le_refl 9)] at hw

theorem inBytes_padding {s : State} (h : PaddingRight s) : inBytes s 9 3 = [s.cfg.pad, s.cfg.pad, s.cfg.pad] :=
  eq_of_beq ((padOk_iff s).mpr h)

theorem inBytes_tag {s : State} (h : TagRight s) : inBytes s 16 4 = tagBytes s.cfg :=
  eq_of_beq ((tagOk_iff s).mpr h)

/-- The latched SIZE_FIELD, written big-endian, is the four bytes it was read from (R136). -/
theorem inBytes_latchSize (s : State) : inBytes s 12 4 = (leBytes 4 (latchSize s).sizeField.toNat).reverse := by
  have hl : (inBytes s 12 4).reverse.length = 4 := by rw [List.length_reverse, inBytes_length]
  have hb : leBytes 4 (latchSize s).sizeField.toNat = (inBytes s 12 4).reverse := leBytes_ofNat_le 32 4 _ hl rfl
  rw [hb, List.reverse_reverse]

/-- The twenty bytes of a header that passes UNWRAP's checks (R138). -/
theorem inBytes_container {s : State} (hm : BeginsWithMagic s) (hp : PaddingRight s) (ht : TagRight s) :
    inBytes s 0 20 =
      magicBytes s.cfg ++ [s.cfg.pad, s.cfg.pad, s.cfg.pad] ++ (leBytes 4 (latchSize s).sizeField.toNat).reverse ++
        tagBytes s.cfg := by
  calc inBytes s 0 20
      = inBytes s 0 9 ++ inBytes s 9 3 ++ inBytes s 12 4 ++ inBytes s 16 4 := by
        rw [inBytes_append s 0 16 4, inBytes_append s 0 12 4, inBytes_append s 0 9 3]
    _ = _ := by rw [inBytes_magic hm, inBytes_padding hp, inBytes_tag ht, inBytes_latchSize]

/-- Settles O16: one end of UNWRAP per clause, with the latch written as the claim writes it. -/
theorem unwrapMeaning : Obligations.UnwrapMeaning := by
  intro s w l
  have hl : 20 ≤ s.inLen.toNat → latchSize w = l := latchSize_eq w
  refine ⟨step_unwrap_magic s, fun h => ?_, fun h hp => ?_, fun h hp ht => ?_, fun h hp ht => ?_⟩
  · exact ⟨_, exec_unwrap_short s h, raise_raisedFrom _ _ w⟩
  · rw [← hl h]
    exact ⟨_, exec_unwrap_padding s h hp, raise_raisedFrom _ _ _⟩
  · rw [← hl h]
    exact ⟨_, exec_unwrap_tag s h hp ht, raise_raisedFrom _ _ _⟩
  · rw [← hl h]
    exact exec_unwrap_good s h hp ht

/-- Settles O17: PASSTHRU as the operation, then as the step of an input without MAGIC. -/
theorem passthruMeaning : Obligations.PassthruMeaning :=
  fun s => ⟨rfl, step_unwrap_noMagic s⟩

/-- Settles O18, by what UNWRAP leaves: a raise changes no more than the claim lists and does not end in PARSE, which is
reached only past the checks that fix the twenty bytes. -/
theorem headerRoundTrip : Obligations.HeaderRoundTrip := by
  intro s t e
  rcases exec_unwrap_next e with ⟨cause, m, f, rfl⟩ | ⟨hp, ht, rfl⟩
  · exact ⟨rfl, Phase.noConfusion, fun _ => ⟨cause, raise_raisedFrom _ _ _⟩, fun _ => Phase.noConfusion⟩
  · exact ⟨rfl, fun _ => ⟨rfl, rfl, rfl⟩, fun h => absurd rfl h, fun hm _ => inBytes_container hm hp ht⟩

end Sys2Proof.Machine
end

section
/-! PARSE_HDR and the operations it is made of: the variants, the grid, and the ends of the header parse, in the
order of its checks (R151 to R163). -/

namespace Sys2Proof.Machine

/-- Settles O20: the two pairs of registers, and the two raises. -/
theorem variantOperations : Obligations.VariantOperations := fun s _ _ =>
  ⟨rfl, rfl, rfl, ⟨_, rfl, raise_raisedFrom _ _ s⟩, ⟨_, rfl, raise_raisedFrom _ _ s⟩⟩

/-- Settles O21: no count of the grid wraps, so NBLK is the product of the two registers too. -/
theorem gridCounts : Obligations.GridCounts := by
  intro s
  obtain ⟨hw, hh, hn, w30, h30, n60⟩ := setGrid_counts s
  refine ⟨setGrid s, rfl, rfl, hw, hh, ?_, ?_, ?_, ?_⟩
  · rw [hn, hw, hh]
  · rwa [hw]
  · rwa [hh]
  · rwa [hn]

/-- The three rows of R105 that name a variant. -/
theorem variantOf_supported {v : Variant} {pf f : Word} (hf : Fmt.hasFourcc pf = true)
    (hv : v = .dxt1 ∧ f = Fmt.dxt1 ∨ v = .dxt3 ∧ f = Fmt.dxt3 ∨ v = .dxt5 ∧ f = Fmt.dxt5) :
    variantOf pf f = v ∧ v ≠ .unset := by
  rw [variantOf, if_pos hf]
  rcases hv with ⟨rfl, rfl⟩ | ⟨rfl, rfl⟩ | ⟨rfl, rfl⟩ <;> exact ⟨rfl, by decide⟩

/-! The ends of PARSE_HDR before the latch. -/

theorem exec_parseHdr_signature {s : State} (h : ¬ BeginsWithSignature s) :
    exec .parseHdr s = .next (raise .formatError 0x04 s) := by
  have hs : signatureBad s = true := by rwa [← signatureBad_iff, Bool.not_eq_false] at h
  exact if_pos hs

theorem exec_parseHdr_short {s : State} (h : BeginsWithSignature s) (hl : streamLen s < 128) :
    exec .parseHdr s = .next (raise .formatError 0x05 s) := by
  have hs : ¬ signatureBad s = true := by simp [(signatureBad_iff s).mpr h]
  exact (if_neg hs).trans (if_pos hl)

/-- A whole header is latched before its fields are checked (R154). -/
theorem exec_parseHdr_latched {s : State} (h : BeginsWithSignature s) (hl : 128 ≤ streamLen s) :
    exec .parseHdr s = .next (parseFields (withHeader s)) := by
  have hs : ¬ signatureBad s = true := by simp [(signatureBad_iff s).mpr h]
  rw [← latchHeader_eq]
  exact (if_neg hs).trans (if_neg (Nat.not_lt.mpr hl))

/-! The ends of the field checks, in their order (R155, R162, R163); `parseFields_supported` is the good one. -/

theorem parseFields_zeroWidth {h : State} (hw : h.width = 0) : parseFields h = raise .formatError 0x06 h :=
  if_pos hw

theorem parseFields_zeroHeight {h : State} (hw : h.width ≠ 0) (hh : h.height = 0) :
    parseFields h = raise .formatError 0x07 h := by
  rw [parseFields, if_neg hw, if_pos hh]

theorem parseFields_noFourcc {h : State} (hw : h.width ≠ 0) (hh : h.height ≠ 0)
    (hf : Fmt.hasFourcc h.pfFlags = false) : parseFields h = raise .unsupportedFormatError 0x08 h := by
  rw [parseFields, if_neg hw, if_neg hh, hf]
  rfl

theorem parseFields_unsupFourcc {h : State} (hw : h.width ≠ 0) (hh : h.height ≠ 0)
    (hf : Fmt.hasFourcc h.pfFlags = true) (h1 : h.fourcc ≠ Fmt.dxt1) (h3 : h.fourcc ≠ Fmt.dxt3)
    (h5 : h.fourcc ≠ Fmt.dxt5) : parseFields h = raise .unsupportedFormatError 0x09 h := by
  have hv : variantOf h.pfFlags h.fourcc = .unset := by
    rw [variantOf, if_pos hf, if_neg h1, if_neg h3, if_neg h5]
  rw [parseFields, if_neg hw, if_neg hh, hf, hv]
  rfl

/-- Settles O19, clause by clause: the two checks before the latch, and each end of the field checks after it. -/
theorem parseHdrMeaning : Obligations.ParseHdrMeaning := by
  intro s h e
  refine ⟨step_parse s, fun hs => ?_, fun hs hl => ?_, fun hs hl => ?_⟩
  · exact ⟨_, exec_parseHdr_signature hs, raise_raisedFrom _ _ s⟩
  · exact ⟨_, exec_parseHdr_short hs hl, raise_raisedFrom _ _ s⟩
  rw [exec_parseHdr_latched hs hl, ← e]
  refine ⟨fun hw => ?_, fun hw hh => ?_, fun hw hh hf => ?_, fun hw hh hf h1 h3 h5 => ?_, fun v hw hh hf hv => ?_⟩
  · exact ⟨_, congrArg _ (parseFields_zeroWidth hw), raise_raisedFrom _ _ h⟩
  · exact ⟨_, congrArg _ (parseFields_zeroHeight hw hh), raise_raisedFrom _ _ h⟩
  · exact ⟨_, congrArg _ (parseFields_noFourcc hw hh hf), raise_raisedFrom _ _ h⟩
  · exact ⟨_, congrArg _ (parseFields_unsupFourcc hw hh hf h1 h3 h5), raise_raisedFrom _ _ h⟩
  · obtain ⟨he, hu⟩ := variantOf_supported hf hv
    obtain ⟨bw, bh, nblk, -⟩ := setGrid_counts (setVariant v h)
    exact ⟨_, congrArg _ (parseFields_supported h v hw hh hu he), rfl, setVariant_blockSize v h, bw, bh, nblk⟩

end Sys2Proof.Machine
end

section
/-! The two checks of the CHECK phase as operations (R164, R165). -/

namespace Sys2Proof.Machine

/-- Settles O22: the two sides of TRUNC_CHK's comparison. -/
theorem truncationCheck : Obligations.TruncationCheck := by
  intro s
  rw [exec_truncChk_eq]
  refine ⟨fun h => ?_, fun h => ?_⟩
  · exact ⟨_, if_pos h, raise_raisedFrom _ _ s⟩
  · exact if_neg (Nat.not_lt.mpr h)

/-- Settles O23: the two sides of CAP_CHK's comparison. -/
theorem capacityCheck : Obligations.CapacityCheck := by
  intro s
  rw [exec_capChk_eq]
  exact ⟨fun h => if_pos h, fun h => if_neg (Nat.not_lt.mpr h)⟩

end Sys2Proof.Machine
end

section
/-! MIPCOUNT as a register no step reads (R157): an operation that neither reads nor writes it commutes with a change of
it, and the sequencer's steps outside PARSE are made of such operations. -/

namespace Sys2Proof.Machine

/-- s with another MIPCOUNT. -/
def setMip (v : Word) (s : State) : State := { s with mipCount := v }

/-- f neither reads nor writes MIPCOUNT: from a state with another one it ends as before, with that one. -/
def MipBlind (f : State → Out) : Prop :=
  ∀ (v : Word) (s : State), f (setMip v s) = andThen (f s) fun t => .next (setMip v t)

/-- Two such operations in a row are one. -/
theorem MipBlind.seq {f g : State → Out} (hf : MipBlind f) (hg : MipBlind g) : MipBlind fun s => andThen (f s) g := by
  intro v s
  simp only [hf v s]
  cases f s with
  | next t => exact hg v t
  | fault | refused => rfl

/-- A choice between two such operations, by a condition that does not read MIPCOUNT, is one. -/
theorem MipBlind.ite {p : State → Prop} [DecidablePred p] {f g : State → Out} (hp : ∀ v s, p (setMip v s) ↔ p s)
    (hf : MipBlind f) (hg : MipBlind g) : MipBlind fun s => if p s then f s else g s := by
  intro v s
  by_cases h : p s
  · simpa only [if_pos h, if_pos ((hp v s).mpr h)] using hf v s
  · simpa only [if_neg h, if_neg (mt (hp v s).mp h)] using hg v s

/-- An update that commutes with a change of MIPCOUNT is one. -/
theorem MipBlind.of_next {f : State → State} (h : ∀ v s, f (setMip v s) = setMip v (f s)) :
    MipBlind fun s => .next (f s) :=
  fun v s => congrArg Host.Outcome.next (h v s)

theorem mipBlind_unwrap : MipBlind (exec .unwrap) :=
  .ite (fun _ _ => Iff.rfl) (.of_next fun _ _ => rfl) <|
    .ite (fun _ _ => Iff.rfl) (.of_next fun _ _ => rfl) <|
      .ite (fun _ _ => Iff.rfl) (.of_next fun _ _ => rfl) (.of_next fun _ _ => rfl)

theorem mipBlind_passthru : MipBlind (exec .passthru) := .of_next fun _ _ => rfl

theorem mipBlind_truncChk : MipBlind (exec .truncChk) :=
  .ite (fun _ _ => Iff.rfl) (.of_next fun _ _ => rfl) (.of_next fun _ _ => rfl)

theorem mipBlind_capChk : MipBlind (exec .capChk) :=
  .ite (fun _ _ => Iff.rfl) (.of_next fun _ _ => rfl) (.of_next fun _ _ => rfl)

theorem mipBlind_advance : MipBlind (exec .advance) :=
  .ite (fun _ _ => Iff.rfl) (.of_next fun _ _ => rfl) (.of_next fun _ _ => rfl)

theorem mipBlind_decDxt1 (c0 c1 : Half) (cidx : Word) : MipBlind (exec (.decDxt1 c0 c1 cidx)) :=
  .ite (p := fun _ => colourMode3 .dxt1 c0 c1 = true) (fun _ _ => Iff.rfl)
    (.of_next fun _ _ => rfl) (.of_next fun _ _ => rfl)

theorem mipBlind_decDxt3 (aexp : Long) (c0 c1 : Half) (cidx : Word) : MipBlind (exec (.decDxt3 aexp c0 c1 cidx)) :=
  .of_next fun _ _ => rfl

theorem alphaHalf_setMip (a0 a1 : Byte) (aidx : BitVec 48) (v : Word) (s : State) :
    alphaHalf a0 a1 aidx (setMip v s) = setMip v (alphaHalf a0 a1 aidx s) := by
  unfold alphaHalf
  split <;> rfl

theorem mipBlind_decDxt5 (a0 a1 : Byte) (aidx : BitVec 48) (c0 c1 : Half) (cidx : Word) :
    MipBlind (exec (.decDxt5 a0 a1 aidx c0 c1 cidx)) :=
  .of_next (f := fun s => lookupAlphas (colourHalf c0 c1 cidx (alphaHalf a0 a1 aidx s))) fun v s => by
    rw [alphaHalf_setMip]
    rfl

/-- Whatever the block's bytes are, the operation they pick is one of the three above (R104, R245). -/
theorem mipBlind_of_decodeBlock {v : Variant} {bs : List Byte} {i : Instr} (h : decodeBlock v bs = .ok i) :
    MipBlind (exec i) := by
  cases v with
  | unset => cases h
  | dxt1 =>
    simp only [decodeBlock] at h
    split at h <;> cases h
    exact mipBlind_decDxt1 _ _ _
  | dxt3 =>
    simp only [decodeBlock] at h
    split at h <;> cases h
    exact mipBlind_decDxt3 _ _ _ _
  | dxt5 =>
    simp only [decodeBlock] at h
    split at h <;> cases h
    exact mipBlind_decDxt5 _ _ _ _ _ _

theorem writePixels_setMip (v : Word) (s : State) (is : List (Fin 16)) (m : Mem) :
    writePixels (setMip v s) is m = writePixels s is m := by
  induction is generalizing m with
  | nil => rfl
  | cons i is ih =>
    simp only [writePixels, ih]
    rfl

theorem mipBlind_pixwr : MipBlind (exec .pixwr) := by
  intro v s
  have hw : writePixels (setMip v s) (List.finRange 16) (setMip v s).output =
      writePixels s (List.finRange 16) s.output :=
    writePixels_setMip v s _ _
  have hb : (setMip v s).bw = s.bw := rfl
  simp only [exec, execPixwr, hw, hb]
  split
  · rfl
  · split <;> rfl

theorem mipBlind_containerOp (c : Config) (bs : List Byte) : MipBlind (exec (containerOp c bs)) := by
  unfold containerOp
  split
  · exact mipBlind_unwrap
  · exact mipBlind_passthru

theorem mipBlind_unwrapStep : MipBlind unwrapStep :=
  fun v s => mipBlind_containerOp s.cfg (magicWindow s) v s

theorem mipBlind_checkStep : MipBlind checkStep :=
  mipBlind_truncChk.seq <|
    .ite (fun _ _ => Iff.rfl) (.of_next fun _ _ => rfl) <|
      mipBlind_capChk.seq <|
        .ite (fun _ _ => Iff.rfl) (.of_next fun _ _ => rfl) (.of_next fun _ _ => rfl)

theorem mipBlind_decodeStep : MipBlind decodeStep := by
  intro v s
  have hb : fetchBlock (setMip v s) = fetchBlock s := rfl
  have hd : (setMip v s).variant = s.variant := rfl
  unfold decodeStep
  rw [hb]
  cases fetchBlock s with
  | none => rfl
  | some bs =>
    simp only [decode, hd]
    cases hi : decodeBlock s.variant bs with
    | error => rfl
    | ok i => exact (mipBlind_of_decodeBlock hi).seq (mipBlind_pixwr.seq mipBlind_advance) v s

/-- Outside PARSE, whichever phase it is, the sequencer's step neither reads nor writes MIPCOUNT. -/
theorem seqStep_setMip (v : Word) (s : State) (hp : s.phase ≠ .parse) :
    seqStep (setMip v s) = andThen (seqStep s) fun t => .next (setMip v t) := by
  have hm : (setMip v s).phase = s.phase := rfl
  cases h : s.phase with
  | idle | done | error =>
    have hb : s.phase.busy = false := by rw [h]; rfl
    rw [seqStep_waiting s hb, seqStep_waiting (setMip v s) hb]
    rfl
  | unwrap =>
    rw [seqStep_unwrap s h, seqStep_unwrap (setMip v s) h]
    exact mipBlind_unwrapStep v s
  | parse => exact absurd h hp
  | check =>
    by_cases hr : s.refused = some .outCap
    · rw [seqStep_refused s h hr, seqStep_refused (setMip v s) h hr]
      rfl
    · rw [seqStep_check s h hr, seqStep_check (setMip v s) h hr]
      exact mipBlind_checkStep v s
  | decode =>
    rw [seqStep_decode s h, seqStep_decode (setMip v s) h]
    exact mipBlind_decodeStep v s

/-- Settles O25: a quiet step is the sequencer's, with either MIPCOUNT. -/
theorem mipCountUnread : Obligations.MipCountUnread := by
  intro s v q hp
  have hq : Quiet (setMip v s) := q
  rw [step_quiet s q]
  exact (step_quiet (setMip v s) hq).trans (seqStep_setMip v s hp)

end Sys2Proof.Machine
end

section
/-! The expansion of packed endpoints (R181 to R183): the widened channels as numbers, and what the three operations
that expand leave. -/

namespace Sys2Proof.Machine

/-- Bit replication to eight bits, as a number: the two shifted copies share no bit, so their union is their sum. -/
theorem bitReplication_toNat {w a b : Nat} (v : BitVec w) (ha : w + a = 8) (hb : w ≤ a + b) :
    ((v.setWidth 8 <<< a) ||| (v.setWidth 8 >>> b)).toNat = v.toNat * 2 ^ a + v.toNat / 2 ^ b := by
  have hhigh : v.toNat * 2 ^ a < 2 ^ 8 := by
    rw [← ha, Nat.pow_add]
    exact Nat.mul_lt_mul_of_pos_right v.isLt (Nat.two_pow_pos a)
  have hlow : v.toNat / 2 ^ b < 2 ^ a := by
    rw [Nat.div_lt_iff_lt_mul (Nat.two_pow_pos b), ← Nat.pow_add]
    exact Nat.lt_of_lt_of_le v.isLt (Nat.pow_le_pow_right (by decide) hb)
  have hv : v.toNat < 2 ^ 8 := Nat.lt_of_le_of_lt (Nat.le_mul_of_pos_right _ (Nat.two_pow_pos a)) hhigh
  rw [BitVec.toNat_or, BitVec.toNat_shiftLeft, BitVec.toNat_ushiftRight, BitVec.toNat_setWidth,
    Nat.mod_eq_of_lt hv, Nat.shiftLeft_eq, Nat.mod_eq_of_lt hhigh, Nat.shiftRight_eq_div_pow,
    ← Nat.shiftLeft_eq, ← Nat.shiftLeft_add_eq_or_of_lt hlow]

theorem e5_toNat (v : BitVec 5) : (e5 v).toNat = v.toNat * 8 + v.toNat / 4 :=
  bitReplication_toNat v rfl (by decide)

theorem e6_toNat (v : BitVec 6) : (e6 v).toNat = v.toNat * 4 + v.toNat / 16 :=
  bitReplication_toNat v rfl (by decide)

/-! The three channels of a packed endpoint as numbers (R99). -/

theorem r5_toNat (c : Half) : (r5 c).toNat = c.toNat / 2048 := by
  have h := c.isLt
  rw [r5, BitVec.extractLsb'_toNat, Nat.shiftRight_eq_div_pow]
  omega

theorem g6_toNat (c : Half) : (g6 c).toNat = c.toNat / 32 % 64 := by
  rw [g6, BitVec.extractLsb'_toNat, Nat.shiftRight_eq_div_pow]

theorem b5_toNat (c : Half) : (b5 c).toNat = c.toNat % 32 := by
  rw [b5, BitVec.extractLsb'_toNat, Nat.shiftRight_zero]

theorem e5_r5_toNat (c : Half) : (e5 (r5 c)).toNat = c.toNat / 2048 * 8 + c.toNat / 2048 / 4 := by
  rw [e5_toNat, r5_toNat]

theorem e6_g6_toNat (c : Half) : (e6 (g6 c)).toNat = c.toNat / 32 % 64 * 4 + c.toNat / 32 % 64 / 16 := by
  rw [e6_toNat, g6_toNat]

theorem e5_b5_toNat (c : Half) : (e5 (b5 c)).toNat = c.toNat % 32 * 8 + c.toNat % 32 / 4 := by
  rw [e5_toNat, b5_toNat]

/-! What each operation leaves, channel by channel (R181 to R183; log entry 8). -/

theorem exec_exp5_red (e : Endpoint) (s : State) :
    exec (.exp5 e .red) s = .next (setExpanded e { expanded e s with r := e5 (r5 (packed e s)) } s) := rfl

theorem exec_exp5_blue (e : Endpoint) (s : State) :
    exec (.exp5 e .blue) s = .next (setExpanded e { expanded e s with b := e5 (b5 (packed e s)) } s) := rfl

theorem exec_exp6_eq (e : Endpoint) (s : State) :
    exec (.exp6 e) s = .next (setExpanded e { expanded e s with g := e6 (g6 (packed e s)) } s) := rfl

theorem exec_exp565_eq (e : Endpoint) (s : State) :
    exec (.exp565 e) s = .next (setExpanded e (expand565 (packed e s)) s) := rfl

/-- Settles O26: e5 increases because v * 8 does and v / 4 never falls, and each channel is read back from the endpoint
just written. -/
theorem expandFiveBits : Obligations.ExpandFiveBits := by
  refine ⟨e5_toNat, fun v w h => ?_, fun e s => ⟨⟨_, exec_exp5_red e s, ?_⟩, ⟨_, exec_exp5_blue e s, ?_⟩⟩⟩
  · rw [e5_toNat, e5_toNat]
    omega
  · rw [setExpanded_same]
    exact ⟨rfl, e5_r5_toNat _⟩
  · rw [setExpanded_same]
    exact ⟨rfl, e5_b5_toNat _⟩

/-- Settles O27, by the value of e6 and the green bits it is given. -/
theorem expandSixBits : Obligations.ExpandSixBits := by
  refine ⟨e6_toNat, fun e s => ⟨_, exec_exp6_eq e s, ?_⟩⟩
  rw [setExpanded_same]
  exact ⟨rfl, e6_g6_toNat _⟩

/-- Settles O28: the endpoint written is the packed one's three channels. -/
theorem expandEndpoint : Obligations.ExpandEndpoint := by
  refine fun e s => ⟨_, exec_exp565_eq e s, ?_⟩
  rw [setExpanded_same]
  exact ⟨rfl, e5_r5_toNat _, e6_g6_toNat _, e5_b5_toNat _⟩

end Sys2Proof.Machine
end

section
/-! The colour palettes (R184 to R187): which one the packed endpoints pick, and the entries of each. -/

namespace Sys2Proof.Machine

theorem colourMode3_iff (v : Variant) (c0 c1 : Half) :
    colourMode3 v c0 c1 = true ↔ v = .dxt1 ∧ c0.toNat ≤ c1.toNat := by
  rw [colourMode3, Bool.and_eq_true, beq_iff_eq, decide_eq_true_iff]

/-- R187: the palette the bytes of two packed endpoints pick, for every variant there is. -/
theorem decode_palette_halves (c : Config) {v : Variant} (hv : v ≠ .unset) (c0 c1 : Half) :
    decode c (.palette v) (leBytes 2 c0.toNat ++ leBytes 2 c1.toNat) =
      .ok (if v = .dxt1 ∧ c0.toNat ≤ c1.toNat then .cpal3 else .cpal4) := by
  have hs : ¬ tooShort (leBytes 2 c0.toNat ++ leBytes 2 c1.toNat) 4 = true := by simp
  have h0 : halfAt (leBytes 2 c0.toNat ++ leBytes 2 c1.toNat) 0 = c0 := halfAt_of_slice rfl
  have h1 : halfAt (leBytes 2 c0.toNat ++ leBytes 2 c1.toNat) 2 = c1 := halfAt_of_slice rfl
  simp only [decode, if_neg hv, if_neg hs, h0, h1, colourMode3_iff]
  split <;> rfl

/-! The blends of R184 to R186 fit a byte, so nothing wraps. -/

theorem twoThirds_toNat (x y : Byte) : (twoThirds x y).toNat = (2 * x.toNat + y.toNat) / 3 := by
  have hx := x.isLt
  have hy := y.isLt
  rw [twoThirds, BitVec.toNat_ofNat]
  omega

theorem midpoint_toNat (x y : Byte) : (midpoint x y).toNat = (x.toNat + y.toNat) / 2 := by
  have hx := x.isLt
  have hy := y.isLt
  rw [midpoint, BitVec.toNat_ofNat]
  omega

/-- R184: CPAL4's interpolant nearer to x. -/
theorem palette4_blends_two (x y : Rgb) : Blends (fun a b => (2 * a + b) / 3) x y (palette4 x y)[2] :=
  ⟨twoThirds_toNat _ _, twoThirds_toNat _ _, twoThirds_toNat _ _⟩

/-- R184: CPAL4's interpolant nearer to y, by symmetry. -/
theorem palette4_blends_three (x y : Rgb) : Blends (fun a b => (a + 2 * b) / 3) x y (palette4 x y)[3] := by
  simp only [Nat.add_comm _ (2 * _)]
  exact palette4_blends_two y x

/-- R185: CPAL3's midpoint. -/
theorem palette3_blends_two (x y : Rgb) : Blends (fun a b => (a + b) / 2) x y (palette3 x y)[2] :=
  ⟨midpoint_toNat _ _, midpoint_toNat _ _, midpoint_toNat _ _⟩

/-- Settles O29: no listed case picks CPAL3, and the entries are those of `palette4`. -/
theorem fourColourPalette : Obligations.FourColourPalette := by
  refine ⟨fun c v c0 c1 h => ?_, fun s => ⟨buildPalette4 s, rfl, rfl, ⟨rfl, rfl, rfl⟩, ⟨rfl, rfl, rfl⟩,
    palette4_blends_two _ _, palette4_blends_three _ _, rfl, rfl, rfl, rfl⟩⟩
  have hv : v ≠ .unset := by rcases h with rfl | rfl | ⟨rfl, -⟩ <;> decide
  have hn : ¬ (v = .dxt1 ∧ c0.toNat ≤ c1.toNat) := by
    rintro ⟨rfl, hle⟩
    rcases h with h | h | ⟨-, hlt⟩
    · cases h
    · cases h
    · exact Nat.not_le_of_lt hlt hle
  rw [decode_palette_halves c hv, if_neg hn]

/-- Settles O30: a tie picks CPAL3 too, and the entries are those of `palette3`. -/
theorem threeColourPalette : Obligations.ThreeColourPalette := by
  refine ⟨fun c c0 c1 h => ?_, fun s => ⟨buildPalette3 s, rfl, rfl, ⟨rfl, rfl, rfl⟩, ⟨rfl, rfl, rfl⟩,
    palette3_blends_two _ _, rfl, rfl, rfl, rfl⟩⟩
  rw [decode_palette_halves c (by decide), if_pos ⟨rfl, h⟩]

/-- MODE3 after DEC_DXT1 is the comparison that picked the palette (R187, R247). -/
theorem exec_decDxt1_mode3 (c0 c1 : Half) (cidx : Word) (s : State) :
    ∃ t, exec (.decDxt1 c0 c1 cidx) s = .next t ∧ t.mode3 = decide (c0.toNat ≤ c1.toNat) := by
  by_cases h : c0.toNat ≤ c1.toNat
  · rw [decide_eq_true h]
    exact ⟨_, if_pos ((colourMode3_iff .dxt1 c0 c1).mpr ⟨rfl, h⟩), rfl⟩
  · rw [decide_eq_false h]
    exact ⟨_, if_neg fun hm => h ((colourMode3_iff .dxt1 c0 c1).mp hm).2, rfl⟩

/-- CPAL4 is part of the colour half of variants 2 and 3, whatever the endpoints are (R218). -/
@[simp] theorem colourHalf_mode3 (c0 c1 : Half) (cidx : Word) (s : State) :
    (colourHalf c0 c1 cidx s).mode3 = false := rfl

/-- AEXPL4 and ALUT leave MODE3, so DEC_DXT3 and DEC_DXT5 end with the colour half's (R216). -/
theorem setAlphas_colourHalf_mode3 (f : Fin 16 → Byte) (c0 c1 : Half) (cidx : Word) (s : State) :
    (setAlphas f (colourHalf c0 c1 cidx s)).mode3 = false := by
  rw [setAlphas_mode3, colourHalf_mode3]

/-- Settles O31: the choice of the palette, then MODE3 after each block operation. -/
theorem colourModeSelection : Obligations.ColourModeSelection := by
  refine ⟨fun c _ c0 c1 hv => decode_palette_halves c hv c0 c1, fun s c0 c1 cidx aexp a0 a1 aidx => ⟨?_, ?_, ?_⟩⟩
  · exact exec_decDxt1_mode3 c0 c1 cidx s
  · exact ⟨_, rfl, setAlphas_colourHalf_mode3 _ c0 c1 cidx _⟩
  · exact ⟨_, rfl, setAlphas_colourHalf_mode3 _ c0 c1 cidx _⟩

end Sys2Proof.Machine
end

section
/-! The colour lookup (R100, R189). -/

namespace Sys2Proof.Machine

/-- R100: the two bits of pixel i, as a number. -/
theorem ci_toNat (cidx : Word) (i : Nat) : (ci cidx i).toNat = cidx.toNat / 4 ^ i % 4 := by
  rw [ci, BitVec.extractLsb'_toNat, Nat.shiftRight_eq_div_pow, Nat.pow_mul]

/-- Settles O32: the pixel's two bits are the index of its entry. -/
theorem colourLookup : Obligations.ColourLookup := by
  refine fun s => ⟨lookupColours s, rfl, rfl, fun i => ?_⟩
  simp only [lookupColours_pix, ci_toNat]

end Sys2Proof.Machine
end

section
/-! The sharp alphas (R101, R211): each nibble as a number, and its seventeenfold. -/

namespace Sys2Proof.Machine

/-- R101: the four bits of pixel i, as a number. -/
theorem ea_toNat (aexp : Long) (i : Nat) : (ea aexp i).toNat = aexp.toNat / 16 ^ i % 16 := by
  rw [ea, BitVec.extractLsb'_toNat, Nat.shiftRight_eq_div_pow, Nat.pow_mul]

/-- R211: seventeen times a nibble never exceeds 255. -/
theorem nibble_mul_seventeen_toNat (v : BitVec 4) : (BitVec.ofNat 8 (v.toNat * 17)).toNat = v.toNat * 17 := by
  have hv := v.isLt
  rw [BitVec.toNat_ofNat]
  omega

/-- Settles O33: PIX takes the alphas alone, and seventeen nibbles fit a byte. -/
theorem sharpAlpha : Obligations.SharpAlpha := by
  refine fun s => ⟨expandSharp s, rfl, rfl, fun i => ?_⟩
  rw [expandSharp, setAlphas_pix]
  exact ⟨rfl, by rw [nibble_mul_seventeen_toNat, ea_toNat]⟩

end Sys2Proof.Machine
end

section
/-! The alpha palettes (R212 to R214): which one the two endpoints pick, and the entries of each. -/

namespace Sys2Proof.Machine

theorem alphaMode6_iff (a0 a1 : Byte) : alphaMode6 a0 a1 = true ↔ a0.toNat ≤ a1.toNat := by
  rw [alphaMode6, decide_eq_true_iff]

/-- R214: the palette two endpoints pick, a tie falling to APAL6. -/
theorem decode_alphaPalette_pair (c : Config) (a0 a1 : Byte) :
    decode c .alphaPalette [a0, a1] = .ok (if a0.toNat ≤ a1.toNat then .apal6 else .apal8) := by
  have hs : ¬ tooShort [a0, a1] 2 = true := by simp
  have h0 : byteAt [a0, a1] 0 = a0 := byteAt_of_slice rfl
  have h1 : byteAt [a0, a1] 1 = a1 := byteAt_of_slice rfl
  simp only [decode, if_neg hs, h0, h1, alphaMode6_iff]
  split <;> rfl

/-- A weighted mean of two bytes is at most 255, so it does not wrap. -/
theorem weighted_toNat {wx wy d : Nat} (hw : wx + wy = d) (x y : Byte) :
    (weighted wx wy d x y).toNat = (wx * x.toNat + wy * y.toNat) / d := by
  have hx : wx * x.toNat ≤ wx * 255 := Nat.mul_le_mul_left wx (Nat.le_of_lt_succ x.isLt)
  have hy : wy * y.toNat ≤ wy * 255 := Nat.mul_le_mul_left wy (Nat.le_of_lt_succ y.isLt)
  have hq : (wx * x.toNat + wy * y.toNat) / d ≤ 255 := Nat.div_le_of_le_mul (by rw [← hw, Nat.add_mul]; omega)
  rw [weighted, BitVec.toNat_ofNat, Nat.mod_eq_of_lt (by omega)]

/-- R212: the interpolants of APAL8. -/
theorem alpha8_interpolant (x y : Byte) (j : Fin 8) (hj : 2 ≤ j.val) :
    (alpha8 x y)[j] = weighted (8 - j.val) (j.val - 1) 7 x y := by
  match j with
  | 0 | 1 => exact absurd hj (by decide)
  | 2 | 3 | 4 | 5 | 6 | 7 => rfl

/-- R213: the interpolants of APAL6. -/
theorem alpha6_interpolant (x y : Byte) (j : Fin 8) (hj : 2 ≤ j.val) (hj' : j.val ≤ 5) :
    (alpha6 x y)[j] = weighted (6 - j.val) (j.val - 1) 5 x y := by
  match j with
  | 0 | 1 => exact absurd hj (by decide)
  | 2 | 3 | 4 | 5 => rfl
  | 6 | 7 => exact absurd hj' (by decide)

/-- Settles O34: A0 above A1 leaves APAL8, and the entries are those of `alpha8`. -/
theorem eightValueAlphaPalette : Obligations.EightValueAlphaPalette := by
  refine ⟨fun c a0 a1 h => ?_, fun s => ⟨buildAlpha8 s, rfl, rfl, rfl, rfl, fun j hj => ?_⟩⟩
  · rw [decode_alphaPalette_pair, if_neg (Nat.not_le_of_lt h)]
  · rw [buildAlpha8_apal, alpha8_interpolant _ _ j hj, weighted_toNat (by omega)]

/-- Settles O35: a tie picks APAL6 too, and the entries are those of `alpha6`. -/
theorem sixValueAlphaPalette : Obligations.SixValueAlphaPalette := by
  refine ⟨fun c a0 a1 h => ?_, fun s => ⟨buildAlpha6 s, rfl, rfl, rfl, rfl, fun j hj hj' => ?_, rfl, rfl⟩⟩
  · rw [decode_alphaPalette_pair, if_pos h]
  · rw [buildAlpha6_apal, alpha6_interpolant _ _ j hj hj', weighted_toNat (by omega)]

/-- AMODE6 after the alpha half is the comparison that picked its palette (R214, R249). -/
@[simp] theorem alphaHalf_amode6 (a0 a1 : Byte) (aidx : BitVec 48) (s : State) :
    (alphaHalf a0 a1 aidx s).amode6 = alphaMode6 a0 a1 := by
  cases h : alphaMode6 a0 a1 with
  | true => rw [alphaHalf, if_pos h, buildAlpha6_amode6]
  | false => rw [alphaHalf, if_neg (by simp [h]), buildAlpha8_amode6]

@[simp] theorem colourHalf_amode6 (c0 c1 : Half) (cidx : Word) (s : State) :
    (colourHalf c0 c1 cidx s).amode6 = s.amode6 := by
  simp [colourHalf, expandPair, expandInto]

/-- Settles O36: the choice of the palette, then AMODE6 after DEC_DXT5, whose colour half and ALUT leave it. -/
theorem alphaModeSelection : Obligations.AlphaModeSelection := by
  refine ⟨decode_alphaPalette_pair, fun s a0 a1 aidx c0 c1 cidx => ⟨_, rfl, ?_⟩⟩
  rw [lookupAlphas, setAlphas_amode6, colourHalf_amode6, alphaHalf_amode6, alphaMode6]

end Sys2Proof.Machine
end

section
/-! The alpha lookup (R102, R215). -/

namespace Sys2Proof.Machine

/-- R102: the three bits of pixel i, as a number. -/
theorem ai_toNat (aidx : BitVec 48) (i : Nat) : (ai aidx i).toNat = aidx.toNat / 8 ^ i % 8 := by
  rw [ai, BitVec.extractLsb'_toNat, Nat.shiftRight_eq_div_pow, Nat.pow_mul]

/-- Settles O37: PIX takes the alphas alone, and the pixel's three bits are the index of its entry. -/
theorem alphaLookup : Obligations.AlphaLookup := by
  refine fun s => ⟨lookupAlphas s, rfl, rfl, fun i => ?_⟩
  simp only [lookupAlphas, setAlphas_pix, ai_toNat]

end Sys2Proof.Machine
end

section
/-! The CHECK phase as one choice (R244), and the output every phase but DECODE leaves. -/

namespace Sys2Proof.Machine

theorem checkStep_eq {s : State} (hp : s.phase = .check) (hr : s.refused ≠ some .outCap) :
    checkStep s =
      if s.inLen.toNat < needed s then .next (raise .truncatedDataError 0x0A s)
      else if s.cfg.outCap < imageBytes s then .next (refuse .outCap s)
      else .next (enterDecode s) := by
  rcases checkStep_cases s hp hr with ⟨hn, e⟩ | ⟨hn, hc, e⟩ | ⟨hn, hc, e⟩
  · rw [e, if_pos hn]
  · rw [e, if_neg (Nat.not_lt.mpr hn), if_pos hc]
  · rw [e, if_neg (Nat.not_lt.mpr hn), if_neg (Nat.not_lt.mpr hc)]

/-- PARSE_HDR writes OUT only by a raise (R77). -/
theorem parseFields_output {s : State} (h : (parseFields s).phase ≠ .error) :
    (parseFields s).output = s.output ∧ (parseFields s).outEra = s.outEra := by
  rcases parseFields_cases s with ⟨k, cause, -, -, e⟩ | ⟨v, -, -, -, e⟩ <;> rw [e] at h ⊢
  · exact absurd rfl h
  · exact ⟨rfl, rfl⟩

/-- Outside DECODE the sequencer writes OUT only by a raise (R77). -/
theorem seqStep_output {s t : State} (h : seqStep s = .next t) (hd : s.phase ≠ .decode) (ht : t.phase ≠ .error) :
    t.output = s.output ∧ t.outEra = s.outEra := by
  cases seqStep_next h with
  | waits _ e | refused _ e | entered _ _ _ _ e =>
    subst e
    exact ⟨rfl, rfl⟩
  | unwrap _ h =>
    rcases exec_unwrap_next h with ⟨_, _, _, rfl⟩ | ⟨-, -, rfl⟩
    · exact absurd rfl ht
    · exact ⟨rfl, rfl⟩
  | passthru _ h =>
    cases h
    exact ⟨rfl, rfl⟩
  | parse _ h =>
    rcases exec_parseHdr_cases s with ⟨_, -, e⟩ | ⟨-, e⟩ <;> cases e.symm.trans h
    · exact absurd rfl ht
    · exact parseFields_output ht
  | truncated _ _ e =>
    subst e
    exact absurd rfl ht
  | decoded hp _ => exact absurd hp hd

end Sys2Proof.Machine
end

section
/-! Two states that share their job step alike (R46, R254): first the parts of a state that the relation reads, then the
updates that keep it, then each phase. -/

namespace Sys2Proof.Machine

/-- The two states read the same bytes of IN below IN_LEN (R13). -/
def SameInput (s t : State) : Prop := ∀ a, a < s.inLen.toNat → readIn t a = readIn s a

theorem SameJob.sameControl {s t : State} (j : SameJob s t) : SameControl s t := by
  obtain ⟨⟨⟨q, -⟩, ⟨q', -⟩⟩, h1, h2, h3, h4, ⟨h5, h6, h7, h8⟩, ⟨h9, h10, h11, h12, h13⟩,
    ⟨h14, h15, h16, h17, h18, h19⟩, h20, -⟩ := j
  cases s
  cases t
  simp_all [SameControl]

section
variable {s t : State} (e : SameControl s t)
include e

/-! The parts of the job that the steps read, one by one. -/

theorem SameControl.cfg : t.cfg = s.cfg := (congrArg State.cfg e :)
theorem SameControl.phase : t.phase = s.phase := (congrArg State.phase e :)
theorem SameControl.refused : t.refused = s.refused := (congrArg State.refused e :)
theorem SameControl.inLen : t.inLen = s.inLen := (congrArg State.inLen e :)
theorem SameControl.base : t.base = s.base := (congrArg State.base e :)
theorem SameControl.variant : t.variant = s.variant := (congrArg State.variant e :)
theorem SameControl.bsize : t.bsize = s.bsize := (congrArg State.bsize e :)
theorem SameControl.bw : t.bw = s.bw := (congrArg State.bw e :)
theorem SameControl.nblk : t.nblk = s.nblk := (congrArg State.nblk e :)
theorem SameControl.blk : t.blk = s.blk := (congrArg State.blk e :)
theorem SameControl.streamLen : streamLen t = streamLen s := (congrArg Machine.streamLen e :)
theorem SameControl.needed : needed t = needed s := (congrArg Machine.needed e :)
theorem SameControl.imageBytes : imageBytes t = imageBytes s := (congrArg Machine.imageBytes e :)
theorem SameControl.blockAddr : blockAddr t = blockAddr s := (congrArg Machine.blockAddr e :)
theorem SameControl.pixelShown (i : Fin 16) : pixelShown t i = pixelShown s i := (congrArg (Machine.pixelShown · i) e :)
theorem SameControl.pixelAddr (i : Fin 16) : pixelAddr t i = pixelAddr s i := (congrArg (Machine.pixelAddr · i) e :)

end

theorem SameControl.sameJob {s t : State} (e : SameControl s t) (i : SameInput s t) (q : Quiet s) (q' : Quiet t) :
    SameJob s t := by
  unfold SameControl at e
  refine ⟨⟨q, q'⟩, ?_, ?_, ?_, ?_, ?_, ?_, ?_, ?_, i⟩ <;> rw [e]
  · exact ⟨rfl, rfl, rfl, rfl⟩
  · exact ⟨rfl, rfl, rfl, rfl, rfl⟩
  · exact ⟨rfl, rfl, rfl, rfl, rfl, rfl⟩

theorem SameInput.inBytes_eq {s t : State} (i : SameInput s t) {a n : Nat} (h : a + n ≤ s.inLen.toNat) :
    inBytes t a n = inBytes s a n :=
  inBytes_congr s t a n fun x _ hx => i x (Nat.lt_of_lt_of_le hx h)

/-! The updates. -/

theorem SameControl.of_onlyDatapath {s t u v : State} (e : SameControl s t) (hu : OnlyDatapath s u)
    (hv : OnlyDatapath t v) : SameControl u v := by
  unfold SameControl OnlyDatapath at *
  rw [hv, e, hu]

theorem SameControl.raise {s t : State} (e : SameControl s t) (k : ErrKind) (cause : Byte) :
    SameControl (raise k cause s) (raise k cause t) := by
  unfold SameControl at *
  rw [e]
  rfl

theorem SameControl.refuse {s t : State} (e : SameControl s t) (r : RefuseReason) :
    SameControl (refuse r s) (refuse r t) := by
  unfold SameControl at *
  rw [e]
  rfl

theorem SameControl.enterDecode {s t : State} (e : SameControl s t) :
    SameControl (enterDecode s) (enterDecode t) := by
  unfold SameControl at *
  rw [e]
  rfl

theorem SameControl.enterCheck {s t : State} (e : SameControl s t) (v : Variant) :
    SameControl { setGrid (setVariant v s) with phase := .check }
      { setGrid (setVariant v t) with phase := .check } := by
  unfold SameControl at *
  rw [e]
  rfl

theorem SameControl.passthru {s t : State} (e : SameControl s t) :
    SameControl { s with wrapped := false, sizeMatch := false, base := 0, phase := .parse }
      { t with wrapped := false, sizeMatch := false, base := 0, phase := .parse } := by
  unfold SameControl at *
  rw [e]

theorem SameControl.setWrapped {s t : State} (e : SameControl s t) :
    SameControl { s with wrapped := true } { t with wrapped := true } := by
  unfold SameControl at *
  rw [e]

theorem SameControl.unwrapped {s t : State} (e : SameControl s t) :
    SameControl { s with base := 20, phase := .parse } { t with base := 20, phase := .parse } := by
  unfold SameControl at *
  rw [e]

theorem SameControl.withOutput {s t : State} (e : SameControl s t) (m m' : Mem) :
    SameControl { s with output := m } { t with output := m' } := by
  unfold SameControl at *
  rw [e]

theorem SameControl.setPhase {s t : State} (e : SameControl s t) (p : Phase) :
    SameControl { s with phase := p } { t with phase := p } := by
  unfold SameControl at *
  rw [e]

theorem SameControl.nextBlk {s t : State} (e : SameControl s t) :
    SameControl { s with blk := s.blk + 1 } { t with blk := t.blk + 1 } := by
  unfold SameControl at *
  rw [e]

theorem SameControl.latchSize {s t : State} (e : SameControl s t) (hb : inBytes t 12 4 = inBytes s 12 4) :
    SameControl (latchSize s) (latchSize t) := by
  unfold Machine.latchSize
  rw [hb]
  unfold SameControl at *
  rw [e]

theorem SameControl.latchHeader {s t : State} (e : SameControl s t)
    (hb : inBytes t t.base.toNat texLen = inBytes s s.base.toNat texLen) :
    SameControl (latchHeader s) (latchHeader t) := by
  unfold Machine.latchHeader
  rw [hb]
  unfold SameControl at *
  rw [e]

/-- The field checks read registers the two states share, so they end alike (R155). -/
theorem SameControl.parseFields {s t : State} (e : SameControl s t) :
    SameControl (parseFields s) (parseFields t) := by
  have hw : t.width = s.width := (congrArg State.width e :)
  have hh : t.height = s.height := (congrArg State.height e :)
  have hp : t.pfFlags = s.pfFlags := (congrArg State.pfFlags e :)
  have hf : t.fourcc = s.fourcc := (congrArg State.fourcc e :)
  unfold Machine.parseFields
  rw [hw, hh, hp, hf]
  split
  · exact e.raise _ _
  · split
    · exact e.raise _ _
    · split
      · exact e.raise _ _
      · split
        · exact e.enterCheck .dxt1
        · exact e.enterCheck .dxt3
        · exact e.enterCheck .dxt5
        · exact e.raise _ _

/-! What one state's step leaves, of the parts the relation reads. -/

theorem Quiet.seqStep {s t : State} (q : Quiet s) (h : seqStep s = .next t) : Quiet t := by
  obtain ⟨hc, -, -, -, hb, -, -⟩ := (hostSide_eq_iff s t).mp (seqStep_hostSide h)
  exact ⟨hb.trans q.1, hc ▸ q.2⟩

theorem SameInput.seqStep {s t u v : State} (i : SameInput s t) (h : seqStep s = .next u) (h' : seqStep t = .next v) :
    SameInput u v := by
  obtain ⟨-, hi, he, hl, -, -, -⟩ := (hostSide_eq_iff s u).mp (seqStep_hostSide h)
  obtain ⟨-, hi', he', -, -, -, -⟩ := (hostSide_eq_iff t v).mp (seqStep_hostSide h')
  intro a ha
  rw [readIn_congr s u hi he, readIn_congr t v hi' he', i a (hl ▸ ha)]

theorem exec_advance_readOut {s t : State} (h : exec .advance s = .next t) (a : Nat) : readOut t a = readOut s a := by
  obtain ⟨p, rfl⟩ := exec_advance_next h
  rfl

/-- After one write of consecutive bytes to two memories, each address reads one byte in both or as before. -/
theorem memGet_memPutAll_alike (m n : Mem) (a : Nat) (bs : List Byte) (x : Nat) :
    (∃ b, memGet (memPutAll m a bs) x = some b ∧ memGet (memPutAll n a bs) x = some b) ∨
      memGet (memPutAll m a bs) x = memGet m x ∧ memGet (memPutAll n a bs) x = memGet n x := by
  by_cases hx : a ≤ x ∧ x < a + bs.length
  · obtain ⟨k, rfl⟩ := Nat.exists_eq_add_of_le hx.1
    have hk : k < bs.length := Nat.lt_of_add_lt_add_left hx.2
    exact Or.inl ⟨_, memGet_memPutAll_inside m bs a k hk, memGet_memPutAll_inside n bs a k hk⟩
  · have ho : x < a ∨ a + bs.length ≤ x := by omega
    exact Or.inr ⟨memGet_memPutAll_other m bs a x ho, memGet_memPutAll_other n bs a x ho⟩

/-! The phases. -/

theorem BeginsWithMagic.congr {s t : State} (e : SameControl s t) (i : SameInput s t) :
    BeginsWithMagic t ↔ BeginsWithMagic s := by
  rw [← magicWindow_iff, ← magicWindow_iff, magicWindow, magicWindow, e.inLen, e.cfg, i.inBytes_eq (by omega)]

theorem exec_unwrap_alike {s t u : State} (e : SameControl s t) (i : SameInput s t) (h : exec .unwrap s = .next u) :
    ∃ v, exec .unwrap t = .next v ∧ SameControl u v := by
  have w := e.setWrapped
  by_cases hs : s.inLen.toNat < 20
  · cases (exec_unwrap_short s hs).symm.trans h
    exact ⟨_, exec_unwrap_short t (e.inLen ▸ hs), w.raise _ _⟩
  have h20 : 20 ≤ s.inLen.toNat := Nat.not_lt.mp hs
  have l : SameControl (latchSize { s with wrapped := true }) (latchSize { t with wrapped := true }) :=
    w.latchSize (i.inBytes_eq (by omega))
  have hpad : PaddingRight t ↔ PaddingRight s := by
    rw [← padOk_iff, ← padOk_iff, padOk, padOk, e.cfg, i.inBytes_eq (by omega)]
  have htag : TagRight t ↔ TagRight s := by
    rw [← tagOk_iff, ← tagOk_iff, tagOk, tagOk, e.cfg, i.inBytes_eq (by omega)]
  have h20' : 20 ≤ t.inLen.toNat := e.inLen ▸ h20
  by_cases hp : PaddingRight s
  · by_cases ht : TagRight s
    · cases (exec_unwrap_good s h20 hp ht).symm.trans h
      exact ⟨_, exec_unwrap_good t h20' (hpad.mpr hp) (htag.mpr ht), l.unwrapped⟩
    · cases (exec_unwrap_tag s h20 hp ht).symm.trans h
      exact ⟨_, exec_unwrap_tag t h20' (hpad.mpr hp) (mt htag.mp ht), l.raise _ _⟩
  · cases (exec_unwrap_padding s h20 hp).symm.trans h
    exact ⟨_, exec_unwrap_padding t h20' (mt hpad.mp hp), l.raise _ _⟩

/-- The signature check reads four bytes of the stream, and only where it has them (R152). -/
theorem BeginsWithSignature.congr {s t : State} (e : SameControl s t) (i : SameInput s t) :
    BeginsWithSignature t ↔ BeginsWithSignature s := by
  rw [BeginsWithSignature, BeginsWithSignature, e.streamLen, e.base]
  refine and_congr_right fun h4 => ?_
  rw [inWord_congr fun k hk => i _ (by unfold streamLen at h4; omega)]

theorem exec_parseHdr_alike {s t u : State} (e : SameControl s t) (i : SameInput s t)
    (h : exec .parseHdr s = .next u) : ∃ v, exec .parseHdr t = .next v ∧ SameControl u v := by
  have hsig := BeginsWithSignature.congr e i
  by_cases hs : BeginsWithSignature s
  · by_cases hl : streamLen s < 128
    · cases (exec_parseHdr_short hs hl).symm.trans h
      exact ⟨_, exec_parseHdr_short (hsig.mpr hs) (e.streamLen ▸ hl), e.raise _ _⟩
    · have h128 : 128 ≤ streamLen s := Nat.not_lt.mp hl
      have hdr : inBytes t t.base.toNat texLen = inBytes s s.base.toNat texLen :=
        by
        rw [e.base]
        exact i.inBytes_eq (by unfold streamLen at h128; unfold texLen; omega)
      cases (exec_parseHdr_latched hs h128).symm.trans h
      refine ⟨_, exec_parseHdr_latched (hsig.mpr hs) (e.streamLen ▸ h128), ?_⟩
      rw [← latchHeader_eq, ← latchHeader_eq]
      exact (e.latchHeader hdr).parseFields
  · cases (exec_parseHdr_signature hs).symm.trans h
    exact ⟨_, exec_parseHdr_signature (mt hsig.mp hs), e.raise _ _⟩

theorem checkStep_alike {s t u : State} (e : SameControl s t) (hp : s.phase = .check)
    (hr : s.refused ≠ some .outCap) (h : checkStep s = .next u) :
    ∃ v, checkStep t = .next v ∧ SameControl u v := by
  rw [checkStep_eq hp hr] at h
  rw [checkStep_eq (e.phase.trans hp) (e.refused ▸ hr), e.inLen, e.needed, e.imageBytes, e.cfg]
  split at h
  · cases h
    exact ⟨_, if_pos ‹_›, e.raise _ _⟩
  · rw [if_neg ‹_›]
    split at h <;> cases h
    · exact ⟨_, if_pos ‹_›, e.refuse _⟩
    · exact ⟨_, if_neg ‹_›, e.enterDecode⟩

/-- Outside DECODE, the two states' steps end alike in all but the datapath, IN and OUT. -/
theorem seqStep_alike {s t u : State} (e : SameControl s t) (i : SameInput s t) (hd : s.phase ≠ .decode)
    (h : seqStep s = .next u) : ∃ v, seqStep t = .next v ∧ SameControl u v := by
  cases hp : s.phase with
  | idle | done | error =>
    have hb : s.phase.busy = false := hp ▸ rfl
    cases (seqStep_waiting s hb).symm.trans h
    exact ⟨t, seqStep_waiting t (e.phase ▸ hb), e⟩
  | unwrap =>
    rw [seqStep_unwrap t (e.phase.trans hp), unwrapStep]
    rw [seqStep_unwrap s hp, unwrapStep] at h
    by_cases hm : BeginsWithMagic s
    · rw [(containerOp_eq s).1 hm] at h
      rw [(containerOp_eq t).1 ((BeginsWithMagic.congr e i).mpr hm)]
      exact exec_unwrap_alike e i h
    · rw [(containerOp_eq s).2 hm] at h
      rw [(containerOp_eq t).2 (mt (BeginsWithMagic.congr e i).mp hm)]
      cases h
      exact ⟨_, rfl, e.passthru⟩
  | parse =>
    rw [seqStep_parse t (e.phase.trans hp)]
    exact exec_parseHdr_alike e i (seqStep_parse s hp ▸ h)
  | check =>
    by_cases hr : s.refused = some .outCap
    · cases (seqStep_refused s hp hr).symm.trans h
    · rw [seqStep_check t (e.phase.trans hp) (e.refused ▸ hr)]
      exact checkStep_alike e hp hr (seqStep_check s hp hr ▸ h)
  | decode => exact absurd hp hd

end Sys2Proof.Machine
end

section
/-! The DECODE step of two states that share their job: the same block, the same pixels, the same writes of OUT (R46,
R254, R255). -/

namespace Sys2Proof.Machine

/-- From s to u and from t to v, each byte of OUT either took one value in both or was left in both. -/
def WrittenAlike (s t u v : State) : Prop :=
  ∀ a, readOut v a = readOut u a ∨ readOut u a = readOut s a ∧ readOut v a = readOut t a

/-- PIXWR's writes for one job and one PIX are the same bytes, whatever the two OUT hold before. -/
theorem writePixels_alike {s t : State} (e : SameControl s t) (hpix : t.pix = s.pix) (is : List (Fin 16)) :
    ∀ m n m' : Mem, writePixels s is m = some m' →
      ∃ n', writePixels t is n = some n' ∧
        ∀ x, (∃ b, memGet m' x = some b ∧ memGet n' x = some b) ∨
          memGet m' x = memGet m x ∧ memGet n' x = memGet n x := by
  induction is with
  | nil =>
    intro m n m' h
    cases h
    exact ⟨n, rfl, fun x => Or.inr ⟨rfl, rfl⟩⟩
  | cons i is ih =>
    intro m n m' h
    simp only [writePixels, e.pixelShown, e.pixelAddr, e.cfg, hpix] at h ⊢
    split at h
    · rename_i hi
      split at h
      · rename_i hf
        rw [if_pos hi, if_pos hf]
        obtain ⟨n', en, r⟩ := ih _ (memPutAll n (pixelAddr s i) (colourBytes s.pix[i])) _ h
        refine ⟨n', en, fun x => ?_⟩
        rcases r x with hb | ⟨rm, rn⟩
        · exact Or.inl hb
        · rw [rm, rn]
          exact memGet_memPutAll_alike _ _ _ _ x
      · cases h
    · rw [if_neg ‹_›]
      exact ih m n m' h

theorem exec_pixwr_alike {s t u : State} (e : SameControl s t) (hpix : t.pix = s.pix)
    (h : exec .pixwr s = .next u) : ∃ v, exec .pixwr t = .next v ∧ SameControl u v ∧ WrittenAlike s t u v := by
  have hw : ¬ s.bw = 0 := fun hw => nomatch (exec_pixwr_noGrid s hw).symm.trans h
  have hw' : ¬ t.bw = 0 := e.bw ▸ hw
  simp only [exec, execPixwr, if_neg hw, if_neg hw'] at h ⊢
  split at h <;> cases h
  obtain ⟨n, en, r⟩ := writePixels_alike e hpix _ _ t.output _ ‹_›
  rw [en]
  refine ⟨_, rfl, e.withOutput _ n, fun x => ?_⟩
  rcases r x with ⟨b, hb, hb'⟩ | ⟨hm, hn⟩
  · simp only [readOut, hb, hb', true_or]
  · simp only [readOut, hm, hn, and_self, or_true]

/-- ADVANCE by the two cursors it compares, which one job has alike (R251). -/
theorem exec_advance_alike {s t u : State} (e : SameControl s t) (h : exec .advance s = .next u) :
    ∃ v, exec .advance t = .next v ∧ SameControl u v := by
  rw [exec_advance_eq] at h ⊢
  split at h <;> cases h
  · exact ⟨_, if_pos (by rwa [e.blk, e.nblk]), e.nextBlk.setPhase .done⟩
  · exact ⟨_, if_neg (by rwa [e.blk, e.nblk]), e.nextBlk⟩

/-- Whatever operation a block picks, it completes and fills PIX from the block and the variant alone (R109, R255). -/
theorem exec_of_decode_block {c : Config} {v : Variant} {bs : List Byte} {i : Instr}
    (h : decode c (.block v) bs = .ok i) (s : State) :
    ∃ t, exec i s = .next t ∧ OnlyDatapath s t ∧ ∀ j : Fin 16, t.pix[j] = blockPixel v bs j := by
  cases v with
  | unset => cases h
  | dxt1 =>
    simp only [decode, decodeBlock] at h
    split at h <;> cases h
    exact dec1_spec _ _ _ s
  | dxt3 =>
    simp only [decode, decodeBlock] at h
    split at h <;> cases h
    exact dec3_spec _ _ _ _ s
  | dxt5 =>
    simp only [decode, decodeBlock] at h
    split at h <;> cases h
    exact dec5_spec _ _ _ _ _ _ s

/-- A block read whole below IN_LEN is the same block in both (R13). -/
theorem fetchBlock_alike {s t : State} (e : SameControl s t) (i : SameInput s t) {bs : List Byte}
    (h : fetchBlock s = some bs) : fetchBlock t = some bs := by
  by_cases hle : blockAddr s + s.bsize.toNat ≤ s.inLen.toNat
  · rw [fetchBlock_of_le t (by rwa [e.blockAddr, e.bsize, e.inLen]), e.blockAddr, e.bsize, i.inBytes_eq hle,
      ← fetchBlock_of_le s hle, h]
  · cases (fetchBlock_of_lt s (Nat.lt_of_not_le hle)).symm.trans h

/-- The DECODE step on a block and the operation it picks (R245). -/
theorem decodeStep_of_block {s : State} {bs : List Byte} {i : Instr} (hb : fetchBlock s = some bs)
    (hd : decode s.cfg (.block s.variant) bs = .ok i) :
    decodeStep s = andThen (exec i s) fun t => andThen (exec .pixwr t) fun u => exec .advance u := by
  simp only [decodeStep, hb, hd]

theorem decodeStep_next_block {s t : State} (h : decodeStep s = .next t) :
    ∃ bs i, fetchBlock s = some bs ∧ decode s.cfg (.block s.variant) bs = .ok i := by
  unfold decodeStep at h
  split at h
  · cases h
  · rename_i bs hb
    split at h
    · cases h
    · exact ⟨bs, _, hb, ‹_›⟩

theorem decodeStep_alike {s t u : State} (e : SameControl s t) (i : SameInput s t) (h : decodeStep s = .next u) :
    ∃ v, decodeStep t = .next v ∧ SameControl u v ∧ WrittenAlike s t u v := by
  obtain ⟨bs, op, hb, hop⟩ := decodeStep_next_block h
  rw [decodeStep_of_block hb hop] at h
  rw [decodeStep_of_block (fetchBlock_alike e i hb) (by rw [e.cfg, e.variant, hop])]
  obtain ⟨d, hd, od, pd⟩ := exec_of_decode_block hop s
  obtain ⟨d', hd', od', pd'⟩ := exec_of_decode_block hop t
  have hpix : d'.pix = d.pix := Vector.ext fun j hj => (pd' ⟨j, hj⟩).trans (pd ⟨j, hj⟩).symm
  rw [hd, andThen_of_next] at h
  obtain ⟨p, hp, ha⟩ := (andThen_next _ _ _).mp h
  obtain ⟨p', hp', ep, wp⟩ := exec_pixwr_alike (e.of_onlyDatapath od od') hpix hp
  obtain ⟨v, ha', ev⟩ := exec_advance_alike ep ha
  refine ⟨v, by rw [hd', andThen_of_next, hp', andThen_of_next, ha'], ev, fun a => ?_⟩
  rw [exec_advance_readOut ha, exec_advance_readOut ha', ← (od.sameBytes a).2, ← (od'.sameBytes a).2]
  exact wp a

/-- Settles O58: outside DECODE the two states end alike and OUT is left, or lost by a raise; in DECODE one block's
pixels are written in both. What is the host's stays, so the two share the rest of the job too. -/
theorem resultDependsOnJobAlone : Obligations.ResultDependsOnJobAlone := by
  intro s s' j t h
  obtain ⟨q, q'⟩ := j.quiet
  have e := j.sameControl
  rw [step_quiet s q] at h
  rw [step_quiet s' q']
  suffices hs : ∃ t', seqStep s' = .next t' ∧ SameControl t t' ∧ (t.phase ≠ .error → WrittenAlike s s' t t') by
    obtain ⟨t', h', et, w⟩ := hs
    exact ⟨t', h', et.sameJob (SameInput.seqStep j.input h h') (q.seqStep h) (q'.seqStep h'), w⟩
  by_cases hd : s.phase = .decode
  · rw [seqStep_decode s hd] at h
    rw [seqStep_decode s' (j.phase.trans hd)]
    obtain ⟨t', h', et, w⟩ := decodeStep_alike e j.input h
    exact ⟨t', h', et, fun _ => w⟩
  · obtain ⟨t', h', et⟩ := seqStep_alike e j.input hd h
    refine ⟨t', h', et, fun hne a => Or.inr ?_⟩
    obtain ⟨ho, hera⟩ := seqStep_output h hd hne
    obtain ⟨ho', hera'⟩ := seqStep_output h' (j.phase ▸ hd) (et.phase ▸ hne)
    exact ⟨readOut_congr s t ho hera a, readOut_congr s' t' ho' hera' a⟩

end Sys2Proof.Machine
end

section
/-! The three block operations, as the operations they are made of and as what they leave (R247 to R249). -/

namespace Sys2Proof.Machine

/-- The palette DEC_DXT1 builds, by the comparison of R187 the other way round. -/
theorem exec_decDxt1_eq (c0 c1 : Half) (cidx : Word) (s : State) :
    exec (.decDxt1 c0 c1 cidx) s =
      (andThen (exec (if c1.toNat < c0.toNat then .cpal4 else .cpal3) (expandPair (latchColour c0 c1 cidx s)))
        fun t => exec .clut t) := by
  by_cases h : c1.toNat < c0.toNat
  · have hm : ¬ colourMode3 .dxt1 c0 c1 = true := fun hm =>
      Nat.not_le_of_lt h ((colourMode3_iff .dxt1 c0 c1).mp hm).2
    rw [if_pos h]
    exact if_neg hm
  · rw [if_neg h]
    exact if_pos ((colourMode3_iff .dxt1 c0 c1).mpr ⟨rfl, Nat.le_of_not_lt h⟩)

/-- The alpha half of DEC_DXT5 is one palette operation after the latches (R214). -/
theorem exec_alphaHalf_eq (a0 a1 : Byte) (aidx : BitVec 48) (s : State) :
    exec (if a1.toNat < a0.toNat then .apal8 else .apal6) { s with a0 := a0, a1 := a1, aidx := aidx } =
      .next (alphaHalf a0 a1 aidx s) := by
  by_cases h : a1.toNat < a0.toNat
  · have hm : ¬ alphaMode6 a0 a1 = true := fun hm => Nat.not_le_of_lt h ((alphaMode6_iff a0 a1).mp hm)
    rw [if_pos h, alphaHalf, if_neg hm]
    rfl
  · rw [if_neg h, alphaHalf, if_pos ((alphaMode6_iff a0 a1).mpr (Nat.le_of_not_lt h))]
    rfl

/-- DEC_DXT1 latches its fields, and writes no register of the alpha half (R247). -/
theorem exec_decDxt1_latches (c0 c1 : Half) (cidx : Word) (s : State) :
    ∃ t, exec (.decDxt1 c0 c1 cidx) s = .next t ∧ t.c0 = c0 ∧ t.c1 = c1 ∧ t.cidx = cidx ∧ t.a0 = s.a0 ∧
      t.a1 = s.a1 ∧ t.aidx = s.aidx ∧ t.aexp = s.aexp ∧ t.apal = s.apal ∧ t.amode6 = s.amode6 := by
  by_cases h : colourMode3 .dxt1 c0 c1 = true
  · exact ⟨_, if_pos h, by simp [expandPair, expandInto]⟩
  · exact ⟨_, if_neg h, by simp [expandPair, expandInto]⟩

/-! What the colour half and the alpha half leave in the latches (R248, R249). -/

@[simp] theorem colourHalf_c0 (c0 c1 : Half) (cidx : Word) (s : State) : (colourHalf c0 c1 cidx s).c0 = c0 := by
  simp [colourHalf, expandPair, expandInto]

@[simp] theorem colourHalf_c1 (c0 c1 : Half) (cidx : Word) (s : State) : (colourHalf c0 c1 cidx s).c1 = c1 := by
  simp [colourHalf, expandPair, expandInto]

@[simp] theorem colourHalf_cidx (c0 c1 : Half) (cidx : Word) (s : State) : (colourHalf c0 c1 cidx s).cidx = cidx := by
  simp [colourHalf, expandPair, expandInto]

@[simp] theorem colourHalf_a0 (c0 c1 : Half) (cidx : Word) (s : State) : (colourHalf c0 c1 cidx s).a0 = s.a0 := by
  simp [colourHalf, expandPair, expandInto]

@[simp] theorem colourHalf_a1 (c0 c1 : Half) (cidx : Word) (s : State) : (colourHalf c0 c1 cidx s).a1 = s.a1 := by
  simp [colourHalf, expandPair, expandInto]

theorem alphaHalf_latches (a0 a1 : Byte) (aidx : BitVec 48) (s : State) :
    (alphaHalf a0 a1 aidx s).a0 = a0 ∧ (alphaHalf a0 a1 aidx s).a1 = a1 ∧
      (alphaHalf a0 a1 aidx s).aidx = aidx ∧ (alphaHalf a0 a1 aidx s).aexp = s.aexp := by
  unfold alphaHalf
  split <;> exact ⟨rfl, rfl, rfl, rfl⟩

/-- Settles O38: the frame and the pixels are `dec1_spec`'s, and the latches are read off what the operation writes. -/
theorem decodeDxt1Block : Obligations.DecodeDxt1Block := by
  refine ⟨fun c bs hl => decode_block_dxt1 c (Nat.le_of_eq hl.symm), fun s c0 c1 cidx => ⟨?_, ?_⟩⟩
  · exact exec_decDxt1_eq c0 c1 cidx s
  · obtain ⟨t, e, o, hpix⟩ := dec1_spec c0 c1 cidx s
    obtain ⟨t', e', latches⟩ := exec_decDxt1_latches c0 c1 cidx s
    obtain rfl : t' = t := Host.Outcome.next.inj (e'.symm.trans e)
    obtain ⟨h0, h1, hi, ha0, ha1, hai, hae, hap, ham⟩ := latches
    exact ⟨t', e, o, o.sameBytes, h0, h1, hi, ha0, ha1, hai, hae, hap, ham, hpix⟩

/-- Settles O39: one composition by definition, with the frame and the pixels of `dec3_spec`. -/
theorem decodeDxt3Block : Obligations.DecodeDxt3Block := by
  refine ⟨fun c bs hl => decode_block_dxt3 c (Nat.le_of_eq hl.symm), fun s aexp c0 c1 cidx => ⟨rfl, ?_⟩⟩
  obtain ⟨t, e, o, hpix⟩ := dec3_spec aexp c0 c1 cidx s
  have ht : expandSharp (colourHalf c0 c1 cidx { s with aexp := aexp }) = t := Host.Outcome.next.inj e
  refine ⟨t, e, o, o.sameBytes, ?_, ?_, ?_, ?_, ?_, ?_, ?_, ?_, ?_, ?_, fun i => by rw [hpix, ea_toNat]⟩ <;>
    simp [← ht, expandSharp]

/-- Settles O40: the alpha half is one palette operation, and the rest is a composition by definition, with the frame
and the pixels of `dec5_spec`. -/
theorem decodeDxt5Block : Obligations.DecodeDxt5Block := by
  refine ⟨fun c bs hl => decode_block_dxt5 c (Nat.le_of_eq hl.symm), fun s a0 a1 aidx c0 c1 cidx => ⟨?_, ?_⟩⟩
  · rw [exec_alphaHalf_eq]
    rfl
  · obtain ⟨t, e, o, hpix⟩ := dec5_spec a0 a1 aidx c0 c1 cidx s
    have ht : lookupAlphas (colourHalf c0 c1 cidx (alphaHalf a0 a1 aidx s)) = t := Host.Outcome.next.inj e
    obtain ⟨ha0, ha1, hai, hae⟩ := alphaHalf_latches a0 a1 aidx s
    refine ⟨t, e, o, o.sameBytes, ?_, ?_, ?_, ?_, ?_, ?_, ?_, ?_, hpix⟩ <;>
      simp [← ht, lookupAlphas, ha0, ha1, hai, hae]

end Sys2Proof.Machine
end

section
/-! PIXWR, the cursor, and which block shows a pixel (R250, R251, R253). -/

namespace Sys2Proof.Machine

/-- Settles O41, by `exec_pixwr_spec`: the pixels inside the image are the shown ones, at their addresses. -/
theorem pixelWrite : Obligations.PixelWrite := by
  intro s hw hc
  obtain ⟨m, e, -, -, hkeep, hhold⟩ := exec_pixwr_spec s hw hc
  refine ⟨_, e, rfl, ?_, fun a ha => ?_⟩
  · intro i x y hx hy
    exact hhold i ((pixelShown_iff s i).mpr ⟨hx, hy⟩)
  · simp only [readOut, hkeep a ha]

/-- Settles O43: below NBLK the cursor does not wrap, and its comparison with NBLK picks PHASE. -/
theorem advanceCursor : Obligations.AdvanceCursor := by
  intro s hk
  have hnext : (s.blk + 1).toNat = s.blk.toNat + 1 := by bv_omega
  rw [exec_advance_eq]
  by_cases hlast : s.blk + 1 = s.nblk
  · rw [if_pos hlast]
    exact ⟨_, rfl, rfl, hnext, Nat.le_trans (Nat.le_of_eq hnext) hk, fun _ => rfl, fun hne => absurd hlast hne⟩
  · rw [if_neg hlast]
    exact ⟨_, rfl, rfl, hnext, Nat.le_trans (Nat.le_of_eq hnext) hk, fun he => absurd he hlast, fun _ => rfl⟩

/-- Where a pixel of a block stands in it, from its place in the image (R253). -/
theorem slotInBlock_pixel (s : State) (i : Fin 16) : slotInBlock (pixelX s i) (pixelY s i) = i := by
  apply Fin.ext
  simp only [slotInBlock, pixelX, pixelY]
  omega

/-- Settles O44: a shown pixel names its block and its place, and the block of a pixel shows it at its place. -/
theorem pixelOwnership : Obligations.PixelOwnership := by
  intro s g x y hx hy
  refine ⟨blockOf_lt s g ⟨hx, hy⟩, fun k i hk => ?_⟩
  have hb : (BitVec.ofNat 64 k).toNat = k := Nat.mod_eq_of_lt (Nat.lt_trans hk s.nblk.isLt)
  constructor
  · rintro ⟨rfl, rfl⟩
    have h := blockOf_pixel { s with blk := BitVec.ofNat 64 k } i
    exact ⟨(h.trans hb).symm, (slotInBlock_pixel _ i).symm⟩
  · rintro ⟨he, rfl⟩
    exact pixel_of_blockOf { s with blk := BitVec.ofNat 64 k } { g with } hx (he.symm.trans hb.symm)

end Sys2Proof.Machine
end

section
/-! The steps of UNWRAP, CHECK and DECODE, and START (R241 to R245). -/

namespace Sys2Proof.Machine

/-- Settles O11: the two checks of START in their order. -/
theorem startStrobe : Obligations.StartStrobe := by
  intro hi s
  refine ⟨fun hb => if_pos hb, fun hb hl => ?_, fun hb hl => ?_⟩
  · rw [exec, execStart, hb, if_neg Bool.false_ne_true, if_pos hl]
    rfl
  · rw [exec, execStart, hb, if_neg Bool.false_ne_true, if_neg (Nat.not_lt.mpr hl)]
    rfl

theorem exec_unwrap_phase (s : State) : ∃ t, exec .unwrap s = .next t ∧ (t.phase = .parse ∨ t.phase = .error) := by
  rcases exec_unwrap_cases s with ⟨_, -, -, e | e⟩ | ⟨-, e⟩
  · exact ⟨_, e, Or.inr rfl⟩
  · exact ⟨_, e, Or.inr rfl⟩
  · exact ⟨_, e, Or.inl rfl⟩

/-- Settles O7: the nine bytes pick the operation, and its outcomes give the phase. -/
theorem unwrapPhase : Obligations.UnwrapPhase := by
  intro s q hp
  refine ⟨fun hm => ?_, fun hm => ?_⟩
  · rw [step_unwrap_magic s q hp hm]
    exact ⟨rfl, exec_unwrap_phase s⟩
  · rw [step_unwrap_noMagic s q hp hm]
    exact ⟨rfl, _, rfl, rfl⟩

theorem step_check (s : State) (q : Quiet s) (hp : s.phase = .check) (hr : s.refused ≠ some .outCap) :
    step s = checkStep s := by
  rw [step_quiet s q, seqStep_check s hp hr]

end Sys2Proof.Machine
end

section
/-! The CHECK and DECODE phases as steps (R244, R245). -/

namespace Sys2Proof.Machine

/-- Settles O8: the two checks in their order, and a ready grid has a block. -/
theorem checkPhase : Obligations.CheckPhase := by
  intro s q hp hr
  rw [step_check s q hp hr, checkStep_eq hp hr]
  refine ⟨fun hn => ?_, fun hn hc => ?_, fun hn hc => ?_, fun h => ?_⟩
  · exact ⟨_, if_pos hn, raise_raisedFrom _ _ s⟩
  · exact (if_neg (Nat.not_lt.mpr hn)).trans (if_pos hc)
  · exact (if_neg (Nat.not_lt.mpr hn)).trans (if_neg (Nat.not_lt.mpr hc))
  · obtain ⟨g, -⟩ := h.checkReady hp
    exact nblk_pos s g

/-- The cursor after a block of the grid, as numbers (R31, R251). -/
theorem blk_succ {b n : Long} (h : b.toNat < n.toNat) :
    (b + 1).toNat = b.toNat + 1 ∧ (b + 1 = n ↔ b.toNat + 1 = n.toNat) := by
  constructor <;> bv_omega

/-- Settles O9: the one block `decodeStep_writes` writes, read pixel by pixel: each shown pixel of block BLK is a pixel
of the image in it, and the other way round. -/
theorem decodePhase : Obligations.DecodePhase := by
  intro s h q hp
  obtain ⟨g, -, hk⟩ := h.decodeReady hp
  obtain ⟨t, e, w, hblk, hph⟩ := decodeStep_writes h hp
  obtain ⟨hnext, hlast⟩ := blk_succ hk
  refine ⟨t, (step_decode s q hp).trans e, fun i hi => ?_, fun a ha => w.keeps a fun x y hin hlo hhi => ?_, ?_, ?_,
    w.frame⟩
  · have hb := blockOf_pixel s i
    have hpix := w.holds _ _ ((pixelShown_iff s i).mp hi) (by omega) (by omega)
    rwa [imagePixel, hb, slotInBlock_pixel] at hpix
  · obtain ⟨ex, ey⟩ := pixel_of_blockOf s g hin.1 (by omega : blockOf s x y = s.blk.toNat)
    have hout := ha (slotInBlock x y) ((pixelShown_iff s _).mpr (by rwa [ex, ey]))
    rwa [pixelAddr_eq_imageAddr, ex, ey] at hout
  · rw [hblk, hnext]
  · simp only [hph, hlast]

end Sys2Proof.Machine
end

section
/-! The run of an operation from UNWRAP to its end (R256). -/

namespace Sys2Proof.Machine

/-- n steps lead from s to t, and every state before t is BUSY. -/
def BusyRun (n : Nat) (s t : State) : Prop :=
  Host.Core.run Sys2Proof.core n s = .next t ∧
    ∀ m, m < n → ∃ u : State, Host.Core.run Sys2Proof.core m s = .next u ∧ u.phase.busy = true

theorem BusyRun.refl (s : State) : BusyRun 0 s s := ⟨rfl, fun m hm => absurd hm (Nat.not_lt_zero m)⟩

/-- A step from a BUSY state, then a BUSY run. -/
theorem BusyRun.step {n : Nat} {s t u : State} (hb : s.phase.busy = true) (e : step s = .next t)
    (r : BusyRun n t u) : BusyRun (n + 1) s u := by
  obtain ⟨er, hr⟩ := r
  refine ⟨(run_succ n s t e).trans er, fun m hm => ?_⟩
  cases m with
  | zero => exact ⟨s, rfl, hb⟩
  | succ m =>
    obtain ⟨v, ev, hv⟩ := hr m (Nat.lt_of_succ_lt_succ hm)
    exact ⟨v, (run_succ m s t e).trans ev, hv⟩

/-- From DECODE the blocks that are left take one step each, and then it is DONE (R245, R251). -/
theorem busyRun_decode (n : Nat) : ∀ s : State, Inv s → Quiet s → s.phase = .decode →
    s.blk.toNat + n + 1 = s.nblk.toNat → ∃ t, BusyRun (n + 1) s t ∧ t.phase = .done ∧ t.nblk = s.nblk := by
  induction n with
  | zero =>
    intro s h q hp hn
    obtain ⟨t, e, w, -, hph⟩ := decodeStep_writes h hp
    obtain ⟨-, -, hnblk, -⟩ := w.frame.sizes
    have hlast : s.blk + 1 = s.nblk := (blk_succ (by omega)).2.mpr hn
    exact ⟨t, .step (hp ▸ rfl) ((step_decode s q hp).trans e) (.refl t), by rw [hph, if_pos hlast], hnblk⟩
  | succ n ih =>
    intro s h q hp hn
    obtain ⟨t, e, w, hblk, hph⟩ := decodeStep_writes h hp
    obtain ⟨-, -, hnblk, hq⟩ := w.frame.sizes
    obtain ⟨hnext, hlast⟩ := blk_succ (b := s.blk) (n := s.nblk) (by omega)
    have hp' : t.phase = .decode := by
      rw [hph, if_neg (mt hlast.mp (by omega))]
    obtain ⟨u, r, hd, hu⟩ := ih t (h.decodeStep hp e) (hq q) hp' (by rw [hblk, hnext, hnblk]; omega)
    exact ⟨u, .step (hp ▸ rfl) ((step_decode s q hp).trans e) r, hd, hu.trans hnblk⟩

/-- The ends of an operation that has taken n steps and is in t (R256; log entry 7). -/
def EndedAfter (n : Nat) (t : State) : Prop :=
  t.phase = .done ∧ n = 3 + t.nblk.toNat ∨ t.phase = .error ∧ 1 ≤ n ∧ n ≤ 3 ∨ t.refused = some .outCap ∧ n = 3

/-- From CHECK: an error, a refusal, or DECODE with all its blocks to come (R244). -/
theorem ends_from_check {s : State} (h : Inv s) (q : Quiet s) (hp : s.phase = .check)
    (hr : s.refused ≠ some .outCap) : ∃ n t, BusyRun n s t ∧ EndedAfter (2 + n) t := by
  have hb : s.phase.busy = true := hp ▸ rfl
  have toNext : ∀ {t}, checkStep s = .next t → step s = .next t := (step_check s q hp hr).trans
  rcases checkStep_cases s hp hr with ⟨-, e⟩ | ⟨-, -, e⟩ | ⟨hn, hc, e⟩
  · exact ⟨1, _, .step hb (toNext e) (.refl _), Or.inr (Or.inl ⟨rfl, by decide, by decide⟩)⟩
  · exact ⟨1, _, .step hb (toNext e) (.refl _), Or.inr (Or.inr ⟨rfl, rfl⟩)⟩
  · obtain ⟨g, -⟩ := h.checkReady hp
    have hpos := nblk_pos s g
    have hz : (enterDecode s).blk.toNat + (s.nblk.toNat - 1) + 1 = s.nblk.toNat := by
      rw [enterDecode_blk]
      bv_omega
    obtain ⟨t, r, hd, hnblk⟩ := busyRun_decode (s.nblk.toNat - 1) _ (h.enterDecode hp hr hn hc) q rfl hz
    refine ⟨_, t, .step hb (toNext e) r, Or.inl ⟨hd, ?_⟩⟩
    rw [hnblk, enterDecode_nblk]
    omega

/-- The field checks end in an error, or in CHECK with the mark as it was (R151). -/
theorem parseFields_phase (s : State) :
    (parseFields s).phase = .error ∨ (parseFields s).phase = .check ∧ (parseFields s).refused = s.refused := by
  rcases parseFields_cases s with ⟨_, _, -, -, e⟩ | ⟨_, -, -, -, e⟩ <;> rw [e]
  · exact Or.inl rfl
  · exact Or.inr ⟨rfl, rfl⟩

theorem exec_parseHdr_phase (s : State) :
    ∃ t, exec .parseHdr s = .next t ∧ (t.phase = .error ∨ t.phase = .check ∧ t.refused = s.refused) := by
  rcases exec_parseHdr_cases s with ⟨_, -, e⟩ | ⟨-, e⟩
  · exact ⟨_, e, Or.inl rfl⟩
  · have h := parseFields_phase (latchHeader s)
    rw [latchHeader_refused] at h
    exact ⟨_, e, h⟩

theorem ends_from_parse {s : State} (h : Inv s) (q : Quiet s) (hp : s.phase = .parse) :
    ∃ n t, BusyRun n s t ∧ EndedAfter (1 + n) t := by
  have hb : s.phase.busy = true := hp ▸ rfl
  obtain ⟨t, e, ht⟩ := exec_parseHdr_phase s
  have es : step s = .next t := (step_parse s q hp).trans e
  rcases ht with he | ⟨hc, hr⟩
  · exact ⟨1, t, .step hb es (.refl t), Or.inr (Or.inl ⟨he, by decide, by decide⟩)⟩
  · obtain ⟨n, u, r, hu⟩ := ends_from_check (h.parseHdr hp e) (q.seqStep (step_quiet s q ▸ es)) hc
      (hr ▸ h.not_outCap hp (by decide))
    refine ⟨n + 1, u, .step hb es r, ?_⟩
    rwa [show 1 + (n + 1) = 2 + n by omega]

/-- A step of UNWRAP ends in PARSE or in an error (R242). -/
theorem step_unwrap_phase {s : State} (q : Quiet s) (hp : s.phase = .unwrap) :
    ∃ t, step s = .next t ∧ (t.phase = .parse ∨ t.phase = .error) := by
  by_cases hm : BeginsWithMagic s
  · exact ((unwrapPhase s q hp).1 hm).2
  · obtain ⟨t, e, ht⟩ := ((unwrapPhase s q hp).2 hm).2
    exact ⟨t, e, Or.inl ht⟩

/-- Settles O59: UNWRAP, PARSE and CHECK take one step each, and each block one after them. -/
theorem operationEnds : Obligations.OperationEnds := by
  intro s h q hp
  have hb : s.phase.busy = true := hp ▸ rfl
  suffices hs : ∃ n t, BusyRun n s t ∧ EndedAfter n t by
    obtain ⟨n, t, ⟨er, hr⟩, ht⟩ := hs
    exact ⟨n, t, er, ht, hr⟩
  obtain ⟨t, e, ht⟩ := step_unwrap_phase q hp
  rcases ht with hpa | he
  · obtain ⟨n, u, r, hu⟩ := ends_from_parse (stepKeepsInvariant s t h e) (q.seqStep (step_quiet s q ▸ e)) hpa
    exact ⟨n + 1, u, .step hb e r, by rwa [Nat.add_comm]⟩
  · exact ⟨1, t, .step hb e (.refl t), Or.inr (Or.inl ⟨he, by decide, by decide⟩)⟩

end Sys2Proof.Machine
end

section
/-! The host's list is read by the turn alone: every operation, and so the sequencer's step, commutes with a change of
it (R240; log entry 5). -/

namespace Sys2Proof.Machine

/-- s with these moves pending. -/
def setInbox (moves : List HostMove) (s : State) : State := { s with inbox := moves }

/-- f neither reads nor writes what u changes: from the changed state it ends as before, with the change. -/
def Ignores (u : State → State) (f : State → Out) : Prop :=
  ∀ s, f (u s) = andThen (f s) fun t => .next (u t)

theorem Ignores.seq {u : State → State} {f g : State → Out} (hf : Ignores u f) (hg : Ignores u g) :
    Ignores u fun s => andThen (f s) g := by
  intro s
  simp only [hf s]
  cases f s with
  | next t => exact hg t
  | fault | refused => rfl

theorem Ignores.ite {u : State → State} {p : State → Prop} [DecidablePred p] {f g : State → Out}
    (hp : ∀ s, p (u s) ↔ p s) (hf : Ignores u f) (hg : Ignores u g) :
    Ignores u fun s => if p s then f s else g s := by
  intro s
  by_cases h : p s
  · simpa only [if_pos h, if_pos ((hp s).mpr h)] using hf s
  · simpa only [if_neg h, if_neg (mt (hp s).mp h)] using hg s

theorem Ignores.of_next {u f : State → State} (h : ∀ s, f (u s) = u (f s)) : Ignores u fun s => .next (f s) :=
  fun s => congrArg Host.Outcome.next (h s)

section
variable (l : List HostMove)

/-- The field checks are choices between updates, by registers alone (R155). -/
theorem parseFields_setInbox (s : State) : parseFields (setInbox l s) = setInbox l (parseFields s) := by
  have hr : (setInbox l s).width = s.width ∧ (setInbox l s).height = s.height ∧ (setInbox l s).pfFlags = s.pfFlags ∧
      (setInbox l s).fourcc = s.fourcc := ⟨rfl, rfl, rfl, rfl⟩
  obtain ⟨hw, hh, hp, hf⟩ := hr
  simp only [parseFields, hw, hh, hp, hf]
  split
  · rfl
  · split
    · rfl
    · split
      · rfl
      · split <;> rfl

theorem alphaHalf_setInbox (a0 a1 : Byte) (aidx : BitVec 48) (s : State) :
    alphaHalf a0 a1 aidx (setInbox l s) = setInbox l (alphaHalf a0 a1 aidx s) := by
  unfold alphaHalf
  split <;> rfl

theorem colourHalf_setInbox (c0 c1 : Half) (cidx : Word) (s : State) :
    colourHalf c0 c1 cidx (setInbox l s) = setInbox l (colourHalf c0 c1 cidx s) := rfl

theorem writePixels_setInbox (s : State) (is : List (Fin 16)) (m : Mem) :
    writePixels (setInbox l s) is m = writePixels s is m := by
  induction is generalizing m with
  | nil => rfl
  | cons i is ih =>
    simp only [writePixels, ih]
    rfl

theorem exec_pixwr_setInbox : Ignores (setInbox l) (exec .pixwr) := by
  intro s
  have hw : writePixels (setInbox l s) (List.finRange 16) (setInbox l s).output =
      writePixels s (List.finRange 16) s.output := writePixels_setInbox l s _ _
  have hb : (setInbox l s).bw = s.bw := rfl
  simp only [exec, execPixwr, hw, hb]
  split
  · rfl
  · split <;> rfl

/-- No operation of the table reads or writes the host's list. -/
theorem exec_setInbox (i : Instr) : Ignores (setInbox l) (exec i) := by
  cases i with
  | start =>
    exact .ite (fun _ => Iff.rfl) (.of_next fun _ => rfl) <|
      .ite (fun _ => Iff.rfl) (.of_next fun _ => rfl) (.of_next fun _ => rfl)
  | unwrap =>
    exact .ite (fun _ => Iff.rfl) (.of_next fun _ => rfl) <|
      .ite (fun _ => Iff.rfl) (.of_next fun _ => rfl) <|
        .ite (fun _ => Iff.rfl) (.of_next fun _ => rfl) (.of_next fun _ => rfl)
  | parseHdr =>
    exact .ite (fun _ => Iff.rfl) (.of_next fun _ => rfl) <|
      .ite (fun _ => Iff.rfl) (.of_next fun _ => rfl) <|
        .of_next fun s => parseFields_setInbox l (latchHeader s)
  | truncChk | capChk | advance =>
    exact .ite (fun _ => Iff.rfl) (.of_next fun _ => rfl) (.of_next fun _ => rfl)
  | decDxt1 c0 c1 =>
    exact .ite (p := fun _ => colourMode3 .dxt1 c0 c1 = true) (fun _ => Iff.rfl)
      (.of_next fun _ => rfl) (.of_next fun _ => rfl)
  | decDxt3 aexp c0 c1 cidx =>
    exact .of_next (f := fun s => expandSharp (colourHalf c0 c1 cidx { s with aexp := aexp })) fun s => by
      have ha : ({ setInbox l s with aexp := aexp } : State) = setInbox l { s with aexp := aexp } := rfl
      rw [ha, colourHalf_setInbox]
      rfl
  | decDxt5 a0 a1 aidx c0 c1 cidx =>
    exact .of_next (f := fun s => lookupAlphas (colourHalf c0 c1 cidx (alphaHalf a0 a1 aidx s))) fun s => by
      rw [alphaHalf_setInbox, colourHalf_setInbox]
      rfl
  | exp5 e ch => cases e <;> cases ch <;> exact .of_next fun _ => rfl
  | exp6 e => cases e <;> exact .of_next fun _ => rfl
  | exp565 e => cases e <;> exact .of_next fun _ => rfl
  | pixwr => exact exec_pixwr_setInbox l
  | passthru | selDxt1 | selDxt3 | selDxt5 | selUnsupFourcc | selUnsupNofourcc | grid => exact .of_next fun _ => rfl
  | cpal4 | cpal3 | clut | aexpl4 | apal8 | apal6 | alut => exact .of_next fun _ => rfl

theorem checkStep_setInbox : Ignores (setInbox l) checkStep :=
  (exec_setInbox l .truncChk).seq <|
    .ite (fun _ => Iff.rfl) (.of_next fun _ => rfl) <|
      (exec_setInbox l .capChk).seq <|
        .ite (fun _ => Iff.rfl) (.of_next fun _ => rfl) (.of_next fun _ => rfl)

theorem decodeStep_setInbox : Ignores (setInbox l) decodeStep := by
  intro s
  have hb : fetchBlock (setInbox l s) = fetchBlock s := rfl
  have hd : (setInbox l s).variant = s.variant ∧ (setInbox l s).cfg = s.cfg := ⟨rfl, rfl⟩
  unfold decodeStep
  rw [hb, hd.1, hd.2]
  split
  · rfl
  · split
    · rfl
    · exact (exec_setInbox l _).seq ((exec_setInbox l .pixwr).seq (exec_setInbox l .advance)) s

/-- The sequencer's step, whichever phase picks it, leaves the host's list to the turn (R240). -/
theorem seqStep_setInbox : Ignores (setInbox l) seqStep := by
  intro s
  have hm : (setInbox l s).phase = s.phase := rfl
  cases h : s.phase with
  | idle | done | error =>
    have hb : s.phase.busy = false := h ▸ rfl
    rw [seqStep_waiting s hb, seqStep_waiting (setInbox l s) hb]
    rfl
  | unwrap =>
    rw [seqStep_unwrap s h, seqStep_unwrap (setInbox l s) h]
    exact exec_setInbox l (containerOp s.cfg (magicWindow s)) s
  | parse =>
    rw [seqStep_parse s h, seqStep_parse (setInbox l s) h]
    exact exec_setInbox l .parseHdr s
  | check =>
    by_cases hr : s.refused = some .outCap
    · rw [seqStep_refused s h hr, seqStep_refused (setInbox l s) h hr]
      rfl
    · rw [seqStep_check s h hr, seqStep_check (setInbox l s) h hr]
      exact checkStep_setInbox l s
  | decode =>
    rw [seqStep_decode s h, seqStep_decode (setInbox l s) h]
    exact decodeStep_setInbox l s

end

/-- A wait is the sequencer's step, on a state whose list is put back (R240; log entry 5). -/
theorem step_wait {s : State} {rest : List HostMove} (hs : s.cfg.outShared = false) (hi : s.inbox = .wait :: rest) :
    step s = andThen (step { s with inbox := [] }) fun t => .next { t with inbox := rest } := by
  have q : Quiet { s with inbox := [] } := ⟨rfl, hs⟩
  rw [step_move s .wait rest hs hi, step_quiet _ q]
  exact seqStep_setInbox rest { s with inbox := [] }

/-- The stream level picks PARSE_HDR or nothing (R104 item 2). -/
theorem decode_stream_ok {c : Config} {bs : List Byte} {i : Instr} (h : decode c .stream bs = .ok i) :
    i = .parseHdr := by
  simp only [decode] at h
  split at h
  · cases h
  · split at h <;> cases h
    rfl

theorem decodeTableWord_some {nbits w : Nat} {i : Instr} (h : decodeTableWord nbits w = some i) : i = .parseHdr := by
  unfold decodeTableWord at h
  split at h <;> cases h
  exact decode_stream_ok ‹_›

/-- Settles O6: the phases by their steps, the host's moves by the turn, and a placed word by its PARSE step. -/
theorem stepRunsDecodedOperation : Obligations.StepRunsDecodedOperation := by
  refine ⟨fun s i q hp hd => ?_, fun s i q hp hd => ?_, step_parse, fun s bs i q hp hb hd => ?_, step_move,
    fun s rest hs hi => step_wait hs hi, fun s v rest i hs hi hd => ?_, fun s nbits w i hd => ?_⟩
  · cases hd
    exact step_unwrap s q hp
  · rw [decode_stream_ok hd]
    exact step_parse s q hp
  · exact (step_decode s q hp).trans (decodeStep_of_block hb hd)
  · rw [step_move s _ rest hs hi]
    simp only [hostMove, writeReg, writeCtrl, hd]
  · rw [decodeTableWord_some hd]
    exact step_parse _ ⟨rfl, rfl⟩ rfl

end Sys2Proof.Machine
end

section
/-! What the sequencer's step leaves of PHASE, ERR and the REFUSED mark: a raise is the only way into ERROR, and no
operation clears the mark (R271 to R277, R280). -/

namespace Sys2Proof.Machine

/-- A DECODE step from any state writes the datapath, OUT, BLK and PHASE alone, and PHASE only to DONE (R245, R251). -/
theorem decodeStep_frame {s t : State} (h : decodeStep s = .next t) :
    DecodedFrom s t ∧ (t.phase = s.phase ∨ t.phase = .done) := by
  obtain ⟨bs, i, hb, hd⟩ := decodeStep_next_block h
  obtain ⟨u, hu, ho, -⟩ := exec_of_decode_block hd s
  rw [decodeStep_of_block hb hd, hu, andThen_of_next] at h
  obtain ⟨v, hw, ha⟩ := (andThen_next _ _ _).mp h
  obtain ⟨m, rfl⟩ := exec_pixwr_next hw
  unfold OnlyDatapath at ho
  rw [ho] at ha
  rw [exec_advance_eq] at ha
  split at ha <;> cases ha
  · exact ⟨rfl, Or.inr rfl⟩
  · exact ⟨rfl, Or.inl rfl⟩

/-- t is the raise of a listed error, over a state whose OUT is still the one of s (R271 to R274). -/
def RaisesListed (s t : State) : Prop :=
  ∃ k cause u, listedErr ⟨k, cause⟩ = true ∧ k ≠ .none ∧ u.outEra = s.outEra ∧ t = raise k cause u

theorem raisesListed_raise {s u : State} {k : ErrKind} {cause : Byte} (hl : listedErr ⟨k, cause⟩ = true)
    (hk : k ≠ .none) (ho : u.outEra = s.outEra) : RaisesListed s (raise k cause u) :=
  ⟨k, cause, u, hl, hk, ho, rfl⟩

theorem exec_unwrap_raises {s t : State} (h : exec .unwrap s = .next t) (ht : t.phase = .error) :
    RaisesListed s t := by
  rcases exec_unwrap_cases s with ⟨cause, h1, h3, e | e⟩ | ⟨-, e⟩ <;> cases e.symm.trans h
  · exact raisesListed_raise (listedErr_format h1 (by omega)) (by decide) rfl
  · exact raisesListed_raise (listedErr_format h1 (by omega)) (by decide) rfl
  · cases ht

theorem exec_parseHdr_raises {s t : State} (h : exec .parseHdr s = .next t) (ht : t.phase = .error) :
    RaisesListed s t := by
  rcases exec_parseHdr_cases s with ⟨cause, hl, e⟩ | ⟨-, e⟩ <;> cases e.symm.trans h
  · exact raisesListed_raise hl (by decide) rfl
  · rcases parseFields_cases (latchHeader s) with ⟨k, cause, hl, hk, e⟩ | ⟨v, -, -, -, e⟩ <;> rw [e] at ht ⊢
    · exact raisesListed_raise hl hk rfl
    · cases ht

/-- The sequencer enters ERROR by a raise alone (R271). -/
theorem seqStep_raises {s t : State} (h : seqStep s = .next t) (hs : s.phase ≠ .error) (ht : t.phase = .error) :
    RaisesListed s t := by
  cases seqStep_next h with
  | unwrap _ h => exact exec_unwrap_raises h ht
  | parse _ h => exact exec_parseHdr_raises h ht
  | truncated _ _ e => exact e ▸ raisesListed_raise rfl (by decide) rfl
  | waits _ e | refused _ e =>
    subst e
    exact absurd ht hs
  | passthru _ h =>
    cases h
    cases ht
  | entered _ _ _ _ e =>
    subst e
    cases ht
  | decoded hp h =>
    rcases (decodeStep_frame h).2 with e | e
    · exact absurd (e.symm.trans ht) hs
    · cases e.symm.trans ht

/-- Settles O46: a quiet step is the sequencer's, which raises a listed error and writes nothing of the host's side. -/
theorem errorsAreRaises : Obligations.ErrorsAreRaises := by
  intro s t q hs h ht
  rw [step_quiet s q] at h
  obtain ⟨-, hin, hera, hlen, -⟩ := (hostSide_eq_iff s t).mp (seqStep_hostSide h)
  obtain ⟨k, cause, u, hl, hk, ho, rfl⟩ := seqStep_raises h hs ht
  exact ⟨hk, hl, rfl, hin, hlen, readIn_congr s _ hin hera, ho ▸ (raise_raisedFrom k cause u).2⟩

/-- The field checks leave the mark (R271). -/
theorem parseFields_refused (s : State) : (parseFields s).refused = s.refused := by
  rcases parseFields_cases s with ⟨_, _, -, -, e⟩ | ⟨_, -, -, -, e⟩ <;> rw [e] <;> rfl

/-- The sequencer's step leaves the mark, but where CAP_CHK sets it (R280). -/
theorem seqStep_refused_eq {s t : State} (h : seqStep s = .next t) :
    t.refused = s.refused ∨ t.refused = some .outCap := by
  cases seqStep_next h with
  | refused _ e =>
    subst e
    exact Or.inr rfl
  | waits _ e | truncated _ _ e | entered _ _ _ _ e =>
    subst e
    exact Or.inl rfl
  | unwrap _ h =>
    rcases exec_unwrap_next h with ⟨_, _, _, rfl⟩ | ⟨-, -, rfl⟩ <;> exact Or.inl rfl
  | passthru _ h =>
    cases h
    exact Or.inl rfl
  | parse _ h =>
    rcases exec_parseHdr_cases s with ⟨_, -, e⟩ | ⟨-, e⟩ <;> cases e.symm.trans h
    · exact Or.inl rfl
    · exact Or.inl (parseFields_refused (latchHeader s))
  | decoded _ h => exact Or.inl (congrArg State.refused (decodeStep_frame h).1 :)

theorem seqStep_marked {s t : State} (h : seqStep s = .next t) (hr : s.refused ≠ none) : t.refused ≠ none := by
  rcases seqStep_refused_eq h with e | e <;> rw [e]
  · exact hr
  · exact Option.some_ne_none _

end Sys2Proof.Machine
end

section
/-! What the host's moves leave of PHASE and the REFUSED mark (R277, R280, R288), and the turn where OUT is shared (R82,
R300). -/

namespace Sys2Proof.Machine

/-- A reset, a wait and a register write are the only moves that reach beyond IN and what is the host's (R48, R302,
R303). -/
theorem hostMove_next_kind {m : HostMove} {s t : State} (h : hostMove m s = .next t) :
    m = .reset ∨ m = .wait ∨ (∃ n v, m = .writeReg n v) ∨
      ∃ i d k, t = { s with input := i, hostData := d, draws := k } := by
  cases m with
  | reset => exact Or.inl rfl
  | wait => exact Or.inr (Or.inl rfl)
  | writeReg n v => exact Or.inr (Or.inr (Or.inl ⟨n, v, rfl⟩))
  | readReg n =>
    cases h
    exact Or.inr (Or.inr (Or.inr ⟨_, _, _, rfl⟩))
  | writeIn a bytes =>
    simp only [hostMove, writeInput] at h
    split at h
    · cases h
    · split at h <;> cases h
      exact Or.inr (Or.inr (Or.inr ⟨_, _, _, rfl⟩))
  | readOut a =>
    simp only [hostMove, readOutput] at h
    split at h
    · cases h
    · split at h <;> cases h
      · exact Or.inr (Or.inr (Or.inr ⟨_, _, _, rfl⟩))
      · exact Or.inr (Or.inr (Or.inr ⟨_, _, _, rfl⟩))

/-- The register write that changes PHASE of a waiting machine is START's (R23, R48). -/
theorem writeReg_changes_phase {n : Nat} {v : Word} {s t : State} (hb : s.phase.busy = false)
    (h : writeReg n v s = .next t) (hp : t.phase ≠ s.phase) : n = 0 ∧ v.getLsbD 0 = true := by
  by_cases h0 : n = 0
  · subst h0
    refine ⟨rfl, Decidable.byContradiction fun hv => hp ?_⟩
    cases ((writeCtrl_eq v s).trans (if_neg hv)).symm.trans h
    rfl
  · refine absurd ?_ hp
    by_cases h3 : n = 3
    · subst h3
      cases (writeReg_inLen s v hb).symm.trans h
      rfl
    · cases (writeReg_ignored s v h0 h3).symm.trans h
      rfl

/-- Settles O10: the sequencer waits, and of the host's moves only a reset and a START write PHASE. -/
theorem waitingPhases : Obligations.WaitingPhases := by
  intro s hb hs
  refine ⟨fun hi => (step_quiet s ⟨hi, hs⟩).trans (seqStep_waiting s hb), fun m rest t hi h hp => ?_⟩
  rw [step_move s m rest hs hi] at h
  rcases hostMove_next_kind h with rfl | rfl | ⟨n, v, rfl⟩ | ⟨i, d, k, rfl⟩
  · exact Or.inl rfl
  · cases (seqStep_waiting { s with inbox := rest } hb).symm.trans h
    exact absurd rfl hp
  · obtain ⟨rfl, hv⟩ := writeReg_changes_phase (s := { s with inbox := rest }) hb h hp
    exact Or.inr ⟨v, hv, rfl⟩
  · exact absurd rfl hp

/-- START leaves the mark or sets it (R50, R280), and the other register writes leave it. -/
theorem writeReg_marked {n : Nat} {v : Word} {s t : State} (h : writeReg n v s = .next t) (hr : s.refused ≠ none) :
    t.refused ≠ none := by
  rcases writeReg_cases n v s with e | ⟨-, e⟩ | ⟨hi, e⟩ <;> rw [e] at h
  · cases h
    exact hr
  · cases h
    exact hr
  · rcases exec_start_cases hi s with ⟨-, e⟩ | ⟨-, -, e⟩ | ⟨-, -, e⟩ <;> cases e.symm.trans h
    · exact hr
    · exact Option.some_ne_none _
    · exact hr

theorem hostMove_marked {m : HostMove} {s t : State} (h : hostMove m s = .next t) (hm : m ≠ .reset)
    (hr : s.refused ≠ none) : t.refused ≠ none := by
  rcases hostMove_next_kind h with rfl | rfl | ⟨n, v, rfl⟩ | ⟨i, d, k, rfl⟩
  · exact absurd rfl hm
  · exact seqStep_marked h hr
  · exact writeReg_marked h hr
  · exact hr

/-- Settles O47: by the ways a step answers a next state, of which a reset alone clears the mark. -/
theorem refusedMarkStays : Obligations.RefusedMarkStays := by
  intro s t hr hn h
  rcases step_next h with rfl | ⟨-, h⟩ | ⟨m, rest, hi, h⟩
  · exact Option.some_ne_none _
  · exact seqStep_marked h hr
  · exact hostMove_marked (s := { s with inbox := rest }) h (fun e => hn rest (e ▸ hi)) hr

/-- Where OUT is shared no move but a reset takes place: the mark is set, and then there is no meaning (R82, R280). -/
theorem step_shared_noReset {s : State} (hs : s.cfg.outShared = true) (hn : ∀ rest, s.inbox ≠ .reset :: rest) :
    step s = if s.refused = some .sharedOut then .refused (.unmeant .sharedOut) else .next (refuse .sharedOut s) := by
  rcases step_shared s hs with ⟨rest, hi, -⟩ | ⟨-, ⟨hr, e⟩ | ⟨hr, e⟩⟩
  · exact absurd hi (hn rest)
  · rw [e, if_pos hr]
  · rw [e, if_neg hr]

theorem step_shared_reset {s : State} {rest : List HostMove} (hs : s.cfg.outShared = true)
    (hi : s.inbox = .reset :: rest) : step s = hostMove .reset { s with inbox := rest } := by
  rcases step_shared s hs with ⟨rest', hi', e⟩ | ⟨hn, -⟩
  · cases hi.symm.trans hi'
    exact e
  · exact absurd hi (hn rest)

/-- Settles O48: the step after an OUT_CAP refusal is the sequencer's, and the rest is the turn where OUT is shared. -/
theorem unmeantSituations : Obligations.UnmeantSituations :=
  ⟨fun s q hp hr => (step_quiet s q).trans (seqStep_refused s hp hr),
    fun _ hs hn hr => (step_shared_noReset hs hn).trans (if_neg hr),
    fun _ hs hn hr => (step_shared_noReset hs hn).trans (if_pos hr),
    fun _ _ hs hi => step_shared_reset hs hi⟩

end Sys2Proof.Machine
end

section
/-! The host's register writes while BUSY (R306, R307), and a reset from any state (R49, R300). -/

namespace Sys2Proof.Machine

theorem exec_start_busy (hi : BitVec 31) (s : State) (hb : s.phase.busy = true) : exec (.start hi) s = .next s :=
  if_pos hb

/-- While BUSY a write of CTRL has no effect, whether its bit 0 makes it START or not (R23, R306). -/
theorem writeReg_ctrl_busy (s : State) (v : Word) (hb : s.phase.busy = true) : writeReg 0 v s = .next s := by
  rw [writeReg, writeCtrl_eq]
  split
  · exact exec_start_busy _ s hb
  · rfl

/-- While BUSY a write of IN_LEN has no effect (R307). -/
theorem writeReg_inLen_busy (s : State) (v : Word) (hb : s.phase.busy = true) : writeReg 3 v s = .next s :=
  if_pos hb

/-- Settles O13: each of the two registers by its own rule. -/
theorem busyWritesIgnored : Obligations.BusyWritesIgnored := fun s v hb =>
  ⟨writeReg_ctrl_busy s v hb, writeReg_inLen_busy s v hb⟩

/-- The host-visible registers hold nothing of what a reset keeps (R49). -/
theorem readReg_resetKeeping (s : State) (n : Nat) : readReg (resetKeeping s) n = readReg State.reset n := rfl

/-- IN is empty after a reset, so each byte of it is the free value of the new era (R49). -/
theorem readIn_resetKeeping (s : State) (a : Nat) : readIn (resetKeeping s) a = Config.freeIn (s.inEra + 1) a := rfl

/-- OUT is empty after a reset, so each byte of it is the free value of the new era (R49). -/
theorem readOut_resetKeeping (s : State) (a : Nat) : readOut (resetKeeping s) a = Config.freeOut (s.outEra + 1) a := rfl

/-- Settles O51: the state a reset leaves reads as the state after reset does, but for the parameters and the eras. -/
theorem resetMove : Obligations.ResetMove := by
  obtain ⟨hphase, hregs, hmark, -⟩ := resetState
  exact fun s => ⟨resetKeeping s, rfl, hphase, fun n => (readReg_resetKeeping s n).trans (hregs n), hmark,
    resetKeeping_cfg s, fun a => ⟨readIn_resetKeeping s a, readOut_resetKeeping s a⟩⟩

end Sys2Proof.Machine
end
